-- ==== Sys2Proof/Word.lean ====
section
/-! DEFINITION. The word types of the HT48R054: the widths of spec/00_scope.md R7. -/

namespace Sys2Proof

/-- A data byte: the 8-bit data path (R7). -/
abbrev Byte := BitVec 8

/-- A word of program memory: every instruction is one (R7, R100). -/
abbrev CodeWord := BitVec 14

/-- A program address, 000H to 1FFH (R7, R22). -/
abbrev ProgAddr := BitVec 9

/-- The data address field `m` of an instruction, 00H to 3FH (R7, R74). -/
abbrev OperandAddr := BitVec 6

/-- An effective data address: the memory pointer has 7 bits (R25, R74). -/
abbrev DataAddr := BitVec 7

/-- A bit number `i`, 0 to 7 (R7, R15). -/
abbrev BitIndex := BitVec 3

end Sys2Proof
end

