-- ==== Sys2Proof/Syntax.lean ====
section
/-! DEFINITION. The instruction as data (spec/30_encoding.md R106): one constructor per row of spec/opcode_table.json, in the table's
order. `m` is the 6-bit data address, `x` the 8-bit immediate, `i` the bit number, `addr` the 9-bit program address; the widths are
those of R106 (`Fin 64`, `Fin 256`, `Fin 8`, `Fin 512`), held as bit vectors because they are fields of the encoded word. -/

namespace Sys2Proof

/-- The 56 instructions of the HT48R054 (R104, R106). -/
inductive Instr where
  /-- `ADD A,[m]` (R131). -/
  | addAM (m : OperandAddr)
  /-- `ADDM A,[m]` (R132). -/
  | addmAM (m : OperandAddr)
  /-- `ADD A,x` (R133). -/
  | addAx (x : Byte)
  /-- `ADC A,[m]` (R134). -/
  | adcAM (m : OperandAddr)
  /-- `ADCM A,[m]` (R135). -/
  | adcmAM (m : OperandAddr)
  /-- `SUB A,x` (R136). -/
  | subAx (x : Byte)
  /-- `SUB A,[m]` (R137). -/
  | subAM (m : OperandAddr)
  /-- `SUBM A,[m]` (R138). -/
  | submAM (m : OperandAddr)
  /-- `SBC A,[m]` (R139). -/
  | sbcAM (m : OperandAddr)
  /-- `SBCM A,[m]` (R140). -/
  | sbcmAM (m : OperandAddr)
  /-- `AND A,[m]` (R151). -/
  | andAM (m : OperandAddr)
  /-- `OR A,[m]` (R152). -/
  | orAM (m : OperandAddr)
  /-- `XOR A,[m]` (R153). -/
  | xorAM (m : OperandAddr)
  /-- `ANDM A,[m]` (R154). -/
  | andmAM (m : OperandAddr)
  /-- `ORM A,[m]` (R155). -/
  | ormAM (m : OperandAddr)
  /-- `XORM A,[m]` (R156). -/
  | xormAM (m : OperandAddr)
  /-- `AND A,x` (R157). -/
  | andAx (x : Byte)
  /-- `OR A,x` (R158). -/
  | orAx (x : Byte)
  /-- `XOR A,x` (R159). -/
  | xorAx (x : Byte)
  /-- `CPL [m]` (R160). -/
  | cplM (m : OperandAddr)
  /-- `CPLA [m]` (R161). -/
  | cplaM (m : OperandAddr)
  /-- `INCA [m]` (R171). -/
  | incaM (m : OperandAddr)
  /-- `INC [m]` (R172). -/
  | incM (m : OperandAddr)
  /-- `DECA [m]` (R173). -/
  | decaM (m : OperandAddr)
  /-- `DEC [m]` (R174). -/
  | decM (m : OperandAddr)
  /-- `RRA [m]` (R181). -/
  | rraM (m : OperandAddr)
  /-- `RR [m]` (R182). -/
  | rrM (m : OperandAddr)
  /-- `RRCA [m]` (R183). -/
  | rrcaM (m : OperandAddr)
  /-- `RRC [m]` (R184). -/
  | rrcM (m : OperandAddr)
  /-- `RLA [m]` (R185). -/
  | rlaM (m : OperandAddr)
  /-- `RL [m]` (R186). -/
  | rlM (m : OperandAddr)
  /-- `RLCA [m]` (R187). -/
  | rlcaM (m : OperandAddr)
  /-- `RLC [m]` (R188). -/
  | rlcM (m : OperandAddr)
  /-- `MOV A,[m]` (R196). -/
  | movAM (m : OperandAddr)
  /-- `MOV [m],A` (R197). -/
  | movMA (m : OperandAddr)
  /-- `MOV A,x` (R198). -/
  | movAx (x : Byte)
  /-- `CLR [m].i` (R199). -/
  | clrMi (m : OperandAddr) (i : BitIndex)
  /-- `SET [m].i` (R200). -/
  | setMi (m : OperandAddr) (i : BitIndex)
  /-- `JMP addr` (R208). -/
  | jmp (addr : ProgAddr)
  /-- `SZ [m]` (R210). -/
  | szM (m : OperandAddr)
  /-- `SZA [m]` (R211). -/
  | szaM (m : OperandAddr)
  /-- `SZ [m].i` (R212). -/
  | szMi (m : OperandAddr) (i : BitIndex)
  /-- `SNZ [m].i` (R213). -/
  | snzMi (m : OperandAddr) (i : BitIndex)
  /-- `SIZ [m]` (R214). -/
  | sizM (m : OperandAddr)
  /-- `SDZ [m]` (R215). -/
  | sdzM (m : OperandAddr)
  /-- `SIZA [m]` (R216). -/
  | sizaM (m : OperandAddr)
  /-- `SDZA [m]` (R217). -/
  | sdzaM (m : OperandAddr)
  /-- `CALL addr` (R218). -/
  | call (addr : ProgAddr)
  /-- `RET` (R219). -/
  | ret
  /-- `RET A,x` (R220). -/
  | retAx (x : Byte)
  /-- `RETI` (R221). -/
  | reti
  /-- `NOP` (R231). -/
  | nop
  /-- `CLR [m]` (R232). -/
  | clrM (m : OperandAddr)
  /-- `SET [m]` (R233). -/
  | setM (m : OperandAddr)
  /-- `CLR WDT` (R234). -/
  | clrWdt
  /-- `HALT` (R235). -/
  | halt
deriving DecidableEq, Repr

end Sys2Proof
end

