-- ==== Sys2Proof/WellFormed.lean ====
section
/-! DEFINITION. Well-formedness. Of an INSTRUCTION it is trivial: spec/30_encoding.md R106, "Every combination of field values is a
legal instruction", and the field types carry the widths. Of a program WORD given as a number there is one check: it has 14 bits
(R100). -/

namespace Sys2Proof

/-- Every instruction is well formed (R106): there is no operand value that the spec restricts. -/
def Instr.wellFormed (_ : Instr) : Bool := true

/-- A number is a program word when it has 14 bits (R100). -/
def wordFits (w : Nat) : Bool := decide (w < 2 ^ 14)

/-- A number is a program address when it is one of 000H to 1FFH (R22, R72). -/
def addrFits (a : Nat) : Bool := decide (a < 512)

end Sys2Proof
end

