-- ==== Sys2Proof/Decode.lean ====
section
/-! DEFINITION. Decoding and encoding, from spec/30_encoding.md R103 to R105 and R120: the REFERENCE encoding, which the spec marks
`[from general knowledge, not in source]` (log 5). The five formats are

    Z  oooooooooooooo        all 14 bits fixed
    M  ooooooo 0 mmmmmm      op7, bit 6 zero, m
    I  oooooo xxxxxxxx       op6, x
    A  ooo 00 aaaaaaaaa      op3, bits 10:9 zero, addr
    B  oooo iii 0 mmmmmm     op4, i, bit 6 zero, m

A word that is none of the 56 decodes to nothing (R120). -/

namespace Sys2Proof

/-- Format Z: `op7` is zero and the low bits are one of five values (R103, R104). -/
def decodeZ (low : BitVec 7) : Option Instr :=
  match low with
  | 0b0000011#7 => some .ret
  | 0b0000100#7 => some .reti
  | 0b0000000#7 => some .nop
  | 0b0000001#7 => some .clrWdt
  | 0b0000010#7 => some .halt
  | _ => none

/-- Format M, by `op7` (bits 13 to 7); bit 6 is zero (R103, R104). -/
def decodeM (op : BitVec 7) (m : OperandAddr) : Option Instr :=
  match op with
  | 0b0000110#7 => some (.addAM m)
  | 0b0000111#7 => some (.addmAM m)
  | 0b0100110#7 => some (.adcAM m)
  | 0b0100111#7 => some (.adcmAM m)
  | 0b0000100#7 => some (.subAM m)
  | 0b0000101#7 => some (.submAM m)
  | 0b0100100#7 => some (.sbcAM m)
  | 0b0100101#7 => some (.sbcmAM m)
  | 0b0001100#7 => some (.andAM m)
  | 0b0001010#7 => some (.orAM m)
  | 0b0001000#7 => some (.xorAM m)
  | 0b0001101#7 => some (.andmAM m)
  | 0b0001011#7 => some (.ormAM m)
  | 0b0001001#7 => some (.xormAM m)
  | 0b0000011#7 => some (.cplM m)
  | 0b0000010#7 => some (.cplaM m)
  | 0b0101000#7 => some (.incaM m)
  | 0b0101001#7 => some (.incM m)
  | 0b0101010#7 => some (.decaM m)
  | 0b0101011#7 => some (.decM m)
  | 0b0110010#7 => some (.rraM m)
  | 0b0110011#7 => some (.rrM m)
  | 0b0110110#7 => some (.rrcaM m)
  | 0b0110111#7 => some (.rrcM m)
  | 0b0110000#7 => some (.rlaM m)
  | 0b0110001#7 => some (.rlM m)
  | 0b0110100#7 => some (.rlcaM m)
  | 0b0110101#7 => some (.rlcM m)
  | 0b0001110#7 => some (.movAM m)
  | 0b0000001#7 => some (.movMA m)
  | 0b0100001#7 => some (.szM m)
  | 0b0100000#7 => some (.szaM m)
  | 0b0101101#7 => some (.sizM m)
  | 0b0101111#7 => some (.sdzM m)
  | 0b0101100#7 => some (.sizaM m)
  | 0b0101110#7 => some (.sdzaM m)
  | 0b0111110#7 => some (.clrM m)
  | 0b0111111#7 => some (.setM m)
  | _ => none

/-- Format I, by `op6` (bits 13 to 8) (R103, R104). -/
def decodeI (op : BitVec 6) (x : Byte) : Option Instr :=
  match op with
  | 0b001011#6 => some (.addAx x)
  | 0b001010#6 => some (.subAx x)
  | 0b001110#6 => some (.andAx x)
  | 0b001101#6 => some (.orAx x)
  | 0b001100#6 => some (.xorAx x)
  | 0b001111#6 => some (.movAx x)
  | 0b001001#6 => some (.retAx x)
  | _ => none

/-- Format A, by `op3` (bits 13 to 11); bits 10 and 9 are zero (R103, R104). -/
def decodeA (op : BitVec 3) (addr : ProgAddr) : Option Instr :=
  match op with
  | 0b101#3 => some (.jmp addr)
  | 0b100#3 => some (.call addr)
  | _ => none

/-- Format B, by `op4` (bits 13 to 10); bit 6 is zero (R103, R104). -/
def decodeB (op : BitVec 4) (i : BitIndex) (m : OperandAddr) : Option Instr :=
  match op with
  | 0b1101#4 => some (.clrMi m i)
  | 0b1100#4 => some (.setMi m i)
  | 0b1111#4 => some (.szMi m i)
  | 0b1110#4 => some (.snzMi m i)
  | _ => none

/-- The reference decoder, `DECODE` of R102: which format a word has is told by its upper bits (R103). Bits 13:12 = 11 is format B,
10 is format A; otherwise `op7` = 0 is format Z, `op6` = 001001 to 001111 is format I and the rest is format M. -/
def decode (w : CodeWord) : Option Instr :=
  if w.extractLsb' 12 2 = 0b11#2 then
    if w.extractLsb' 6 1 = 0#1 then decodeB (w.extractLsb' 10 4) (w.extractLsb' 7 3) (w.extractLsb' 0 6) else none
  else if w.extractLsb' 12 2 = 0b10#2 then
    if w.extractLsb' 9 2 = 0#2 then decodeA (w.extractLsb' 11 3) (w.extractLsb' 0 9) else none
  else if w.extractLsb' 7 7 = 0#7 then decodeZ (w.extractLsb' 0 7)
  else if w.extractLsb' 11 3 = 0b001#3 then decodeI (w.extractLsb' 8 6) (w.extractLsb' 0 8)
  else if w.extractLsb' 6 1 = 0#1 then decodeM (w.extractLsb' 7 7) (w.extractLsb' 0 6)
  else none

/-- Format M's word (R103). -/
def wordM (op : BitVec 7) (m : OperandAddr) : CodeWord := op ++ 0#1 ++ m

/-- Format I's word (R103). -/
def wordI (op : BitVec 6) (x : Byte) : CodeWord := op ++ x

/-- Format A's word (R103). -/
def wordA (op : BitVec 3) (addr : ProgAddr) : CodeWord := op ++ 0#2 ++ addr

/-- Format B's word (R103). -/
def wordB (op : BitVec 4) (i : BitIndex) (m : OperandAddr) : CodeWord := op ++ i ++ 0#1 ++ m

/-- The one word of an instruction (R100, R104). -/
def encode : Instr → CodeWord
  | .addAM m => wordM 0b0000110#7 m
  | .addmAM m => wordM 0b0000111#7 m
  | .addAx x => wordI 0b001011#6 x
  | .adcAM m => wordM 0b0100110#7 m
  | .adcmAM m => wordM 0b0100111#7 m
  | .subAx x => wordI 0b001010#6 x
  | .subAM m => wordM 0b0000100#7 m
  | .submAM m => wordM 0b0000101#7 m
  | .sbcAM m => wordM 0b0100100#7 m
  | .sbcmAM m => wordM 0b0100101#7 m
  | .andAM m => wordM 0b0001100#7 m
  | .orAM m => wordM 0b0001010#7 m
  | .xorAM m => wordM 0b0001000#7 m
  | .andmAM m => wordM 0b0001101#7 m
  | .ormAM m => wordM 0b0001011#7 m
  | .xormAM m => wordM 0b0001001#7 m
  | .andAx x => wordI 0b001110#6 x
  | .orAx x => wordI 0b001101#6 x
  | .xorAx x => wordI 0b001100#6 x
  | .cplM m => wordM 0b0000011#7 m
  | .cplaM m => wordM 0b0000010#7 m
  | .incaM m => wordM 0b0101000#7 m
  | .incM m => wordM 0b0101001#7 m
  | .decaM m => wordM 0b0101010#7 m
  | .decM m => wordM 0b0101011#7 m
  | .rraM m => wordM 0b0110010#7 m
  | .rrM m => wordM 0b0110011#7 m
  | .rrcaM m => wordM 0b0110110#7 m
  | .rrcM m => wordM 0b0110111#7 m
  | .rlaM m => wordM 0b0110000#7 m
  | .rlM m => wordM 0b0110001#7 m
  | .rlcaM m => wordM 0b0110100#7 m
  | .rlcM m => wordM 0b0110101#7 m
  | .movAM m => wordM 0b0001110#7 m
  | .movMA m => wordM 0b0000001#7 m
  | .movAx x => wordI 0b001111#6 x
  | .clrMi m i => wordB 0b1101#4 i m
  | .setMi m i => wordB 0b1100#4 i m
  | .jmp addr => wordA 0b101#3 addr
  | .szM m => wordM 0b0100001#7 m
  | .szaM m => wordM 0b0100000#7 m
  | .szMi m i => wordB 0b1111#4 i m
  | .snzMi m i => wordB 0b1110#4 i m
  | .sizM m => wordM 0b0101101#7 m
  | .sdzM m => wordM 0b0101111#7 m
  | .sizaM m => wordM 0b0101100#7 m
  | .sdzaM m => wordM 0b0101110#7 m
  | .call addr => wordA 0b100#3 addr
  | .ret => 0b00000000000011#14
  | .retAx x => wordI 0b001001#6 x
  | .reti => 0b00000000000100#14
  | .nop => 0b00000000000000#14
  | .clrM m => wordM 0b0111110#7 m
  | .setM m => wordM 0b0111111#7 m
  | .clrWdt => 0b00000000000001#14
  | .halt => 0b00000000000010#14

/-- The instruction the decoder reads from an instruction whose `nbits` bits are `w`. There is one word, of 14 bits: bits 13 to 0 of
`w`; a number with a higher bit set is no program word (R100). -/
def decodeTableWord (nbits w : Nat) : Option Instr :=
  if wordFits (w % 2 ^ nbits) then decode (BitVec.ofNat 14 (w % 2 ^ nbits)) else none

end Sys2Proof
end

