-- ==== Sys2Proof/Config.lean ====
section
/-! DEFINITION. What a programmed device fixes (the option bits, spec/60_exceptions.md R280, and the two points
spec/92_eei_decisions.md leaves OPEN as booleans), the durations the spec gives, and the FREE VALUES: opaque constants, so that no
proof can see what they are. -/

namespace Sys2Proof.Config

/-- The kinds of system oscillator, OP9:OP8 (R280). -/
inductive Oscillator where
  | crystal32768
  | rc
  | crystal
deriving DecidableEq, Repr

/-- `OPT`, the ROM code options of a programmed device (R8, R280). OP10 and OP11 have no meaning and no field (D23).
The model carries the options as this record and has no image of the words 8000H to 8002H of the option PROM; no data address and no
instruction reads it as data, since a program cannot read the option PROM (R281). -/
structure Options where
  /-- OP7 to OP0: a falling edge on PAj wakes the device. -/
  wake : BitVec 8
  /-- OP9:OP8: the system oscillator. -/
  osc : BitVec 2
  /-- OP12: 0 = the WDT RC oscillator feeds the prescaler, 1 = the instruction clock does. -/
  prescSrc : Bool
  /-- OP13: 1 = the watchdog is disabled. -/
  wdtDisable : Bool
  /-- OP15:OP14: the watchdog tap, division by 2^(n+5), time-out 2^(n+8). -/
  wdtDiv : BitVec 2
  /-- OP18:OP16: the timer tap, division by 2^(n+1). -/
  tmrPresc : BitVec 3
  /-- OP19: 0 = the timer counts the instruction clock, 1 = the prescaler tap. -/
  tmrSrc : Bool
  /-- OP27 to OP20: pull-high of PA7 to PA0. -/
  pullA : BitVec 8
  /-- OP29:OP28: pull-high of PB1, PB0. -/
  pullB : BitVec 2
  /-- OP31:OP30: pull-high of PC1, PC0. -/
  pullC : BitVec 2
  /-- LOCK: read-out protection against a device programmer; no effect on execution (R86, D23). -/
  lock : Bool
deriving DecidableEq, Repr

/-- The oscillator that OP9:OP8 select (R280). -/
def Options.oscillator (o : Options) : Oscillator :=
  if o.osc = 0#2 then .crystal32768 else if o.osc = 3#2 then .crystal else .rc

/-- What is fixed for one device over a run: its options, and the two parameters the spec leaves OPEN (R9, D21, D32). -/
structure Device where
  opt : Options
  /-- WDT_OFF_FLAG_WRITES: whether CLR WDT and HALT still write TO and PD when the watchdog is disabled (D21). -/
  wdtOffFlagWrites : Bool
  /-- RCOSC_RUNS: whether the WDT RC oscillator runs when the watchdog is disabled and it feeds the prescaler (D32). -/
  rcoscRuns : Bool
deriving DecidableEq, Repr

/-- DESIGN CHOICE (log 21): the options State.reset carries, every option bit 0. -/
def Options.blank : Options :=
  { wake := 0, osc := 0, prescSrc := false, wdtDisable := false, wdtDiv := 0, tmrPresc := 0, tmrSrc := false,
    pullA := 0, pullB := 0, pullC := 0, lock := false }

/-- DESIGN CHOICE (log 21): the device State.reset carries. -/
def Device.blank : Device := { opt := Options.blank, wdtOffFlagWrites := true, rcoscRuns := true }

/-- The start-up delay, 1024 system clocks, in instruction cycles (R304, R320). -/
def sstCycles : Nat := 256

/-- FREE VALUE (log 24): the instruction cycles an interrupt entry takes; the source gives no number (R248, R322, N10). -/
opaque interruptEntryCycles : Nat

/-- FREE VALUE (log 3): the word an address of program memory that nobody has programmed holds (R72, R121). -/
opaque unprogrammedWord : ProgAddr → CodeWord

/-- FREE VALUE (log 4): ACC after power-up number `n` (R60, R62). -/
opaque powerOnAcc : Nat → Byte

/-- FREE VALUE (log 4): MP bits 6 to 0 after power-up (R60, R62). -/
opaque powerOnMp : Nat → BitVec 7

/-- FREE VALUE (log 4): TMR after power-up (R60, R62). -/
opaque powerOnTmr : Nat → Byte

/-- FREE VALUE (log 4): C, AC, Z, OV (bits 0 to 3) after power-up (R60, R62). -/
opaque powerOnFlags : Nat → BitVec 4

/-- FREE VALUE (log 4): the byte of RAM at an address after power-up (R61, R62). -/
opaque powerOnRam : Nat → Nat → Byte

/-- FREE VALUE (log 4): STACK after power-up (R61, D20). -/
opaque powerOnStack : Nat → ProgAddr

/-- FREE VALUE (log 28): PRESC after a reset (R61, R263). -/
opaque prescAfterReset : Nat → BitVec 8

/-- FREE VALUE (log 20): whether the active clock that coincides with a read of TMR is lost (R271, D31). -/
opaque timerReadLosesCount : Nat → Bool

/-- FREE VALUE (log 23): when one clock tick brings both a timer count and a watchdog time-out, whether the count comes first. -/
opaque countBeforeTimeout : Nat → Bool

end Sys2Proof.Config
end

