-- ==== Sys2Proof/Machine/State.lean ====
section
/-! DEFINITION. The state of the machine as plain data: every register, flag and hidden bit of spec/10_state.md, the program memory and
the options of the run, the levels on the pins, and the schedule of the environment. One setter per part that an operation writes. -/

namespace Sys2Proof.Machine

/-- STATUS, data 0AH (R27 to R34); bits 6 and 7 do not exist and read 0. -/
structure Status where
  c : Bool
  ac : Bool
  z : Bool
  ov : Bool
  pd : Bool
  tmo : Bool
deriving DecidableEq, Repr

/-- INTC, data 0BH (R36); bits 3, 6 and 7 do not exist and read 0. -/
structure Intc where
  emi : Bool
  eei : Bool
  eti : Bool
  eif : Bool
  tf : Bool
deriving DecidableEq, Repr

/-- TMRC, data 0EH (R38); bits 0, 1, 2 and 5 do not exist and read 0. -/
structure Tmrc where
  te : Bool
  ton : Bool
  tm0 : Bool
  tm1 : Bool
deriving DecidableEq, Repr

/-- What the environment does to the pads (R47, R49, D26): of each port pin, whether something outside drives it and the level it is
driven to or, undriven, floats at (U23); the level of the one pad that is both INT and TMR (R47); the level of RES (R303).
Between two pin events these do not change, so they are also the previous levels of the edge detectors, INT_prev and PA_prev (log 9). -/
structure Pins where
  drvA : BitVec 8
  lvlA : BitVec 8
  drvB : BitVec 2
  lvlB : BitVec 2
  drvC : BitVec 2
  lvlC : BitVec 2
  int : Bool
  res : Bool
deriving DecidableEq, Repr

/-- What the environment can do between two instructions (R274, R300, D16, D22, D26). -/
inductive Event where
  /-- One tick of the instruction clock, the system clock divided by 4 (R260, R267). -/
  | instrClock
  /-- One tick of the WDT RC oscillator (R260). -/
  | rcClock
  /-- The pad shared by INT and TMR is now at this level (R242, R268, R273). -/
  | intPad (level : Bool)
  /-- The pads of port A: which are driven from outside, and their levels (R252, R276). -/
  | portA (drv lvl : BitVec 8)
  /-- The pads of port B. -/
  | portB (drv lvl : BitVec 2)
  /-- The pads of port C. -/
  | portC (drv lvl : BitVec 2)
  /-- RES is now at this level; low is active (R303). -/
  | resPin (level : Bool)
  /-- A system power-up (R301). -/
  | powerUp
deriving DecidableEq, Repr

/-- Whose turn it is: the core's (one instruction, or one interrupt entry) or the environment's. -/
inductive Turn where
  | core
  | event (e : Event)
deriving DecidableEq, Repr

/-- The state of the machine. -/
structure State where
  /-- The program counter (R22). While an instruction of address `a` executes it holds `a + 1`. -/
  pc : ProgAddr
  /-- The accumulator, also data 05H (R21). -/
  acc : Byte
  /-- The memory pointer, data 01H (R25). -/
  mp : BitVec 7
  /-- The flags, data 0AH (R27). -/
  status : Status
  /-- Interrupt control, data 0BH (R36). -/
  intc : Intc
  /-- The timer/event counter, data 0DH (R37). -/
  tmr : Byte
  /-- Its control register, data 0EH (R38). -/
  tmrc : Tmrc
  /-- Port A output latch, data 12H (R39). -/
  paLatch : Byte
  /-- Port A control, data 13H: 1 = input (R39). -/
  pac : Byte
  /-- Port B output latch, data 14H (R40). -/
  pbLatch : BitVec 2
  /-- Port B control, data 15H (R40). -/
  pbc : BitVec 2
  /-- Port C output latch, data 16H (R40). -/
  pcLatch : BitVec 2
  /-- Port C control, data 17H (R40). -/
  pcc : BitVec 2
  /-- General purpose data memory, 20H to 3FH (R41), in canonical form. -/
  ram : List Host.Cell
  /-- The one level of the stack (R44). -/
  stack : ProgAddr
  /-- Whether that level holds a return address that has not been popped (R44). -/
  stackFull : Bool
  /-- Set from HALT to a wake-up or a reset (R45). -/
  halted : Bool
  /-- The last three stages of the watchdog (R46). -/
  wdt3 : BitVec 3
  /-- The prescaler the watchdog and the timer share (R46). -/
  presc : BitVec 8
  /-- MODEL'S OWN (log 20): the instruction that has just run read TMR while it counted (R271). -/
  tmrRead : Bool
  /-- The pads (R49). -/
  pins : Pins
  /-- The programmed words of program memory (R71), in canonical form. -/
  prom : List (Nat × CodeWord)
  /-- The device: OPT, carried as a record that no program can read (R281), and the two OPEN parameters (R8, R9). -/
  cfg : Config.Device
  /-- MODEL'S OWN (log 7): the turns to come; when there is none it is the core's turn. -/
  env : List Turn
  /-- MODEL'S OWN (log 24): instruction cycles used (R321). -/
  cycles : Nat
  /-- MODEL'S OWN (log 4): how many free values have been drawn. -/
  draws : Nat
deriving DecidableEq, Repr

/-- A fault of the machine. The chip has none: "The hardware raises no synchronous exception" (R240), so this type has no constructor
and no step can fault. -/
inductive Fault where
deriving DecidableEq, Repr

/-- Where the spec gives a run no meaning (R13: a closed list), and the host's name for an instruction without a meaning. Every one is
SAFE: the run stops. -/
inductive Refusal where
  /-- Raised by exec for an instruction that has no meaning yet; no arm does. Safe. -/
  | notModelled (mnemonic : String)
  /-- Raised by the fetch of a word that is none of the 56 instructions (R120, D2). Safe. -/
  | illegalWord
  /-- Raised by RET, RET A,x and RETI when nothing is on the stack (R207, D5). Safe. -/
  | stackUnderflow
  /-- Raised by an indirect access with MP in 40H to 7FH (R75, D8). Safe. -/
  | pointerOutOfRange
  /-- Raised by SIZ and SDZ whose destination is PCL (R80, D7). Safe. -/
  | skipOnPCL
  /-- Raised by an instruction that writes flags and whose destination is STATUS (R79, D11). Safe. -/
  | statusFlagClash
  /-- Raised by a clock or pin edge that the counter would have to count in an unused mode with TON = 1 (R269, D14). Safe. -/
  | timerModeUnused
deriving DecidableEq, Repr

/-- What a meaning or a step answers. -/
abbrev Result := Host.Outcome State Fault Refusal

/-! ### Setters: one per part -/

def State.setPc (s : State) (v : ProgAddr) : State := { s with pc := v }
def State.setAcc (s : State) (v : Byte) : State := { s with acc := v }
def State.setMp (s : State) (v : BitVec 7) : State := { s with mp := v }
def State.setStatus (s : State) (v : Status) : State := { s with status := v }
def State.setIntc (s : State) (v : Intc) : State := { s with intc := v }
def State.setTmr (s : State) (v : Byte) : State := { s with tmr := v }
def State.setTmrc (s : State) (v : Tmrc) : State := { s with tmrc := v }
def State.setPaLatch (s : State) (v : Byte) : State := { s with paLatch := v }
def State.setPac (s : State) (v : Byte) : State := { s with pac := v }
def State.setPbLatch (s : State) (v : BitVec 2) : State := { s with pbLatch := v }
def State.setPbc (s : State) (v : BitVec 2) : State := { s with pbc := v }
def State.setPcLatch (s : State) (v : BitVec 2) : State := { s with pcLatch := v }
def State.setPcc (s : State) (v : BitVec 2) : State := { s with pcc := v }
def State.setRam (s : State) (v : List Host.Cell) : State := { s with ram := v }
def State.setStack (s : State) (v : ProgAddr) : State := { s with stack := v }
def State.setStackFull (s : State) (v : Bool) : State := { s with stackFull := v }
def State.setHalted (s : State) (v : Bool) : State := { s with halted := v }
def State.setWdt3 (s : State) (v : BitVec 3) : State := { s with wdt3 := v }
def State.setPresc (s : State) (v : BitVec 8) : State := { s with presc := v }
def State.setTmrRead (s : State) (v : Bool) : State := { s with tmrRead := v }
def State.setPins (s : State) (v : Pins) : State := { s with pins := v }
def State.setProm (s : State) (v : List (Nat × CodeWord)) : State := { s with prom := v }
def State.setEnv (s : State) (v : List Turn) : State := { s with env := v }
def State.setCycles (s : State) (v : Nat) : State := { s with cycles := v }
def State.setDraws (s : State) (v : Nat) : State := { s with draws := v }

/-! ### Reset -/

/-- INTC after a chip reset: "--00 -000" (R36, R60). -/
def Intc.reset : Intc := { emi := false, eei := false, eti := false, eif := false, tf := false }

/-- TMRC after a chip reset: "00-0 1---" (R38, R60). -/
def Tmrc.reset : Tmrc := { te := true, ton := false, tm0 := false, tm1 := false }

/-- DESIGN CHOICE (logs 9 and 25): at State.reset nothing drives a port pin, every pad is at level 1, and RES is high. -/
def Pins.idle : Pins :=
  { drvA := 0, lvlA := 0xFF#8, drvB := 0, lvlB := 3, drvC := 0, lvlC := 3, int := true, res := true }

/-- The machine right after a power-up reset: column (1) of R60, with R61; so what R310 lists as ready or not ready holds here. DESIGN
CHOICE, unsafe (logs 1, 2, 9, 21, 24): what the spec leaves unknown or to the environment is zero or idle here; `State.powerUp` is the same
reset with every unknown value free. -/
def State.reset : State :=
  { pc := 0, acc := 0, mp := 0,
    status := { c := false, ac := false, z := false, ov := false, pd := false, tmo := false },
    intc := Intc.reset, tmr := 0, tmrc := Tmrc.reset,
    paLatch := 0xFF#8, pac := 0xFF#8, pbLatch := 3, pbc := 3, pcLatch := 3, pcc := 3,
    ram := [], stack := 0, stackFull := false, halted := false, wdt3 := 0, presc := 0, tmrRead := false,
    pins := Pins.idle, prom := [], cfg := Config.Device.blank, env := [], cycles := Config.sstCycles, draws := 0 }

end Sys2Proof.Machine
end

