-- ==== Sys2Proof/Machine/Flags.lean ====
section
/-! DEFINITION. The 8-bit adder and every flag computation: spec/00_scope.md R14, spec/10_state.md R27 to R38, and the packing of the
flag and control bits into the bytes a data access sees. -/

namespace Sys2Proof.Machine

/-- A byte from its eight bits, bit 7 first. -/
def packByte (b7 b6 b5 b4 b3 b2 b1 b0 : Bool) : Byte :=
  BitVec.ofBool b7 ++ BitVec.ofBool b6 ++ BitVec.ofBool b5 ++ BitVec.ofBool b4 ++
    BitVec.ofBool b3 ++ BitVec.ofBool b2 ++ BitVec.ofBool b1 ++ BitVec.ofBool b0

/-- What `add8` answers: the byte, the carries out of bits 7 and 3, and the overflow. -/
structure Sum where
  value : Byte
  c : Bool
  ac : Bool
  ov : Bool
deriving DecidableEq, Repr

/-- The 8-bit adder of every arithmetic rule (R14). -/
def add8 (a b : Byte) (cin : Bool) : Sum :=
  let total := a.toNat + b.toNat + cin.toNat
  let carry := decide (256 ≤ total)
  let carry6 := decide (128 ≤ a.toNat % 128 + b.toNat % 128 + cin.toNat)
  { value := BitVec.ofNat 8 total,
    c := carry,
    ac := decide (16 ≤ a.toNat % 16 + b.toNat % 16 + cin.toNat),
    ov := carry6 ^^ carry }

/-- C, AC, OV and Z of an addition or subtraction (R28 to R31, R130). -/
def Status.withSum (st : Status) (r : Sum) : Status :=
  { st with c := r.c, ac := r.ac, ov := r.ov, z := decide (r.value = 0) }

/-- Z alone (R30): 1 exactly when the 8-bit result is 00H. -/
def Status.withZero (st : Status) (v : Byte) : Status := { st with z := decide (v = 0) }

/-- C alone (R28, rotates through carry). -/
def Status.withCarry (st : Status) (b : Bool) : Status := { st with c := b }

/-- A data read of 0AH: `{0, 0, TO, PD, OV, Z, AC, C}` (R27). -/
def Status.toByte (st : Status) : Byte := packByte false false st.tmo st.pd st.ov st.z st.ac st.c

/-- A data write of 0AH: C, AC, Z, OV and nothing else (R34). -/
def Status.write (st : Status) (v : Byte) : Status :=
  { st with c := v.getLsbD 0, ac := v.getLsbD 1, z := v.getLsbD 2, ov := v.getLsbD 3 }

/-- A data read of 0BH: `{0, 0, TF, EIF, 0, ETI, EEI, EMI}` (R36). -/
def Intc.toByte (i : Intc) : Byte := packByte false false i.tf i.eif false i.eti i.eei i.emi

/-- A data write of 0BH (R36); software may set the request flags too (D12). -/
def Intc.ofByte (v : Byte) : Intc :=
  { emi := v.getLsbD 0, eei := v.getLsbD 1, eti := v.getLsbD 2, eif := v.getLsbD 4, tf := v.getLsbD 5 }

/-- A data read of 0EH: `{TM1, TM0, 0, TON, TE, 0, 0, 0}` (R38). -/
def Tmrc.toByte (t : Tmrc) : Byte := packByte t.tm1 t.tm0 false t.ton t.te false false false

/-- A data write of 0EH (R38). -/
def Tmrc.ofByte (v : Byte) : Tmrc :=
  { te := v.getLsbD 3, ton := v.getLsbD 4, tm0 := v.getLsbD 6, tm1 := v.getLsbD 7 }

end Sys2Proof.Machine
end

