-- ==== Sys2Proof/Machine/Memory.lean ====
section
/-! DEFINITION. Memory as a list of (address, value) pairs in one canonical form: addresses strictly rising, and in data memory no entry
equal to what an unlisted address reads as. -/

namespace Sys2Proof.Machine

/-- The value listed at an address. -/
def Memory.lookup {α : Type} (a : Nat) : List (Nat × α) → Option α
  | [] => none
  | (b, v) :: t => if a = b then some v else Memory.lookup a t

/-- List a value at an address, in its place, instead of what was listed there. -/
def Memory.insert {α : Type} (a : Nat) (v : α) : List (Nat × α) → List (Nat × α)
  | [] => [(a, v)]
  | (b, w) :: t =>
    if a < b then (a, v) :: (b, w) :: t
    else if a = b then (a, v) :: t
    else (b, w) :: Memory.insert a v t

/-- List nothing at an address. -/
def Memory.erase {α : Type} (a : Nat) : List (Nat × α) → List (Nat × α)
  | [] => []
  | (b, w) :: t => if a = b then t else (b, w) :: Memory.erase a t

/-- Addresses strictly rising. -/
def Memory.rising {α : Type} : List (Nat × α) → Bool
  | [] => true
  | (a, _) :: t => t.all (fun p => decide (a < p.1)) && Memory.rising t

/-- DESIGN CHOICE, unsafe (log 2): a byte of general purpose RAM that nothing has written reads 00H. The spec calls it unknown (R41). -/
def Memory.unlisted : Byte := 0

/-- One byte of data memory. -/
def Memory.read (m : List Host.Cell) (a : Nat) : Byte := (Memory.lookup a m).getD Memory.unlisted

/-- Store one byte of data memory, keeping the canonical form. -/
def Memory.write (m : List Host.Cell) (a : Nat) (v : Byte) : List Host.Cell :=
  if v = Memory.unlisted then Memory.erase a m else Memory.insert a v m

/-- General purpose data memory is 20H to 3FH (R41). -/
def Memory.isRam (a : Nat) : Bool := decide (0x20 ≤ a) && decide (a < 0x40)

/-- The canonical form of data memory. -/
def Memory.wf (m : List Host.Cell) : Bool :=
  Memory.rising m && m.all (fun p => Memory.isRam p.1 && decide (p.2 ≠ Memory.unlisted))

/-- The canonical form of program memory: addresses strictly rising, and all of them among the 512 (R71). -/
def Memory.promWf (m : List (Nat × CodeWord)) : Bool :=
  Memory.rising m && m.all (fun p => addrFits p.1)

/-- All of RAM, 20H to 3FH, filled from a function of the address. -/
def Memory.fill (f : Nat → Byte) : List Host.Cell :=
  (List.range 32).foldl (fun m k => Memory.write m (0x20 + k) (f (0x20 + k))) []

/-- `Fetch(a)`: the word of program memory at an address (R72). There is no fetch fault; a word nobody has programmed is a free value
(R121, log 3). -/
def fetch (s : State) (a : ProgAddr) : CodeWord := (Memory.lookup a.toNat s.prom).getD (Config.unprogrammedWord a)

end Sys2Proof.Machine
end

