-- ==== Sys2Proof/Machine/Ops.lean ====
section
/-! DEFINITION. The shared operations of the core: control transfer, the one-level stack, skips, the interrupt entry (the only exception
the chip takes) and the returns beside it, and what the watchdog instructions do. -/

namespace Sys2Proof.Machine

/-! ### Control transfer -/

/-- Load the program counter. A control transfer takes one dummy cycle more (R205, R321). -/
def State.goto (s : State) (t : ProgAddr) : State := (s.setPc t).setCycles (s.cycles + 1)

/-- Skip: when the condition holds, `pc <- a + 2`; `pc` is `a + 1` already (R209). -/
def State.skipIf (s : State) (cond : Bool) : State := if cond then s.goto (s.pc + 1) else s

/-- A byte written to PCL: bit 8 of the incremented counter stays (R24, D7). -/
def pclTarget (pc : ProgAddr) (v : Byte) : ProgAddr := pc.extractLsb' 8 1 ++ v

/-! ### The stack -/

/-- `Push(v)`: a full stack loses its older entry, silently (R206). -/
def State.push (s : State) (v : ProgAddr) : State := (s.setStack v).setStackFull true

/-- `Pop()`: the program counter comes from the stack, which is then empty; STACK keeps its bits (R207). -/
def State.pop (s : State) : State := (s.setStackFull false).goto s.stack

/-- A return: pop, then what else the instruction does; with nothing pushed the spec gives no meaning (R207, D5). -/
def returning (k : State → State) (s : State) : Result :=
  if s.stackFull then .next (k s.pop) else .refused .stackUnderflow

/-! ### Interrupts: acceptance, entry (R241 to R249) -/

/-- The two sources (R241). -/
inductive Source where
  | external
  | timer
deriving DecidableEq, Repr

/-- The interrupt vectors (R241). -/
def Source.vector : Source → ProgAddr
  | .external => 0x004#9
  | .timer => 0x008#9

/-- The request flag and the enable bit of a source, and EMI (R241). -/
def Intc.requests (i : Intc) : Source → Bool
  | .external => i.emi && i.eei && i.eif
  | .timer => i.emi && i.eti && i.tf

/-- A source is acceptable: requested, enabled, EMI set, the stack not full (R245, R246). -/
def State.acceptable (s : State) (src : Source) : Bool := s.intc.requests src && !s.stackFull

/-- INTC at an interrupt entry: the source's request flag and EMI are cleared (R248). -/
def Intc.enter (i : Intc) : Source → Intc
  | .external => { i with eif := false, emi := false }
  | .timer => { i with tf := false, emi := false }

/-- TAKING AN INTERRUPT (R248): the program counter is pushed, the vector loaded, the request flag and EMI cleared; nothing else is
saved or changed. The cycles it takes are a free value (N10, log 24). -/
def interruptEntry (src : Source) (s : State) : State :=
  ((((s.push s.pc).setPc src.vector).setIntc (s.intc.enter src)).setTmrRead false).setCycles
    (s.cycles + Config.interruptEntryCycles)

/-- What RETI adds to a return: EMI is set, nothing else is restored (R221, R257). -/
def State.enableInterrupts (s : State) : State := s.setIntc { s.intc with emi := true }

/-! ### Watchdog instructions and halt (R234, R235, R265) -/

/-- Clear the last three stages; void when the watchdog is disabled by option (R263, R265). -/
def State.clearWdt3 (s : State) : State := if s.cfg.opt.wdtDisable then s else s.setWdt3 0

/-- Write TO and PD, as CLR WDT and HALT do: always with the watchdog enabled, and as WDT_OFF_FLAG_WRITES says otherwise (D21). -/
def State.writeToPd (s : State) (tmo pd : Bool) : State :=
  if s.cfg.opt.wdtDisable && !s.cfg.wdtOffFlagWrites then s else s.setStatus { s.status with tmo := tmo, pd := pd }

/-! ### Fetch -/

/-- The prologue of an instruction: the program counter is incremented by its fetch (R22) and one instruction cycle passes (R321); the
window in which a read of TMR can lose a count is over (log 20). -/
def State.begin (s : State) : State := ((s.setPc (s.pc + 1)).setTmrRead false).setCycles (s.cycles + 1)

end Sys2Proof.Machine
end

