-- ==== Sys2Proof/Machine/Operands.lean ====
section
/-! DEFINITION. The memory operand: the effective address, the data memory map, `MemRead` and `MemWrite` (spec/20_memory.md R74 to R80,
spec/10_state.md R43), and the forms an instruction uses them in. -/

namespace Sys2Proof.Machine

/-- The effective address (R74): `m` = 00H selects the memory pointer. -/
def effectiveAddr (m : OperandAddr) (s : State) : DataAddr := if m = 0 then s.mp else m.zeroExtend 7

/-- What stands at a data address: the map of R43. The options are at none: a program cannot read the option PROM (R281). -/
inductive Loc where
  /-- 00H reached through MP = 00H: reads 00H, writes do nothing (R26, R75). -/
  | null
  | mp
  | acc
  | pcl
  | status
  | intc
  | tmr
  | tmrc
  | pa
  | pac
  | pb
  | pbc
  | pc
  | pcc
  /-- The 19 reserved addresses below 20H: read 00H, writes do nothing (R42, D9). -/
  | unused
  /-- General purpose RAM, 20H to 3FH (R41). -/
  | ram (a : Nat)
  /-- 40H to 7FH: nothing is described there (R75, D8). -/
  | beyond
deriving DecidableEq, Repr

/-- The data memory map (R43). -/
def locOf (e : DataAddr) : Loc :=
  if 0x40 ≤ e.toNat then .beyond
  else if 0x20 ≤ e.toNat then .ram e.toNat
  else match e with
    | 0x00#7 => .null
    | 0x01#7 => .mp
    | 0x05#7 => .acc
    | 0x06#7 => .pcl
    | 0x0A#7 => .status
    | 0x0B#7 => .intc
    | 0x0D#7 => .tmr
    | 0x0E#7 => .tmrc
    | 0x12#7 => .pa
    | 0x13#7 => .pac
    | 0x14#7 => .pb
    | 0x15#7 => .pbc
    | 0x16#7 => .pc
    | 0x17#7 => .pcc
    | _ => .unused

/-- The location an operand names. `EA(m)` is 00H only for `m` = 00H with MP = 00H, so `.null` is exactly that case (R75). -/
def locate (m : OperandAddr) (s : State) : Loc := locOf (effectiveAddr m s)

/-- The levels on the pads of a port (R275, R276): what drives the pad from outside; else the output latch where the pin is an output;
else the pull-high; else whatever level the undriven pad floats at (U23, log 9). -/
def padLevels {n : Nat} (drv lvl ctl latch pull : BitVec n) : BitVec n :=
  (drv &&& lvl) ||| (~~~drv &&& ((~~~ctl &&& latch) ||| (ctl &&& (pull ||| lvl))))

/-- A read of a port data register: the pad where the control bit is 1, the latch where it is 0 (R39, R40, R76). -/
def portRead {n : Nat} (drv lvl ctl latch pull : BitVec n) : BitVec n :=
  (ctl &&& padLevels drv lvl ctl latch pull) ||| (~~~ctl &&& latch)

/-- The pads of port A. -/
def State.padA (s : State) : BitVec 8 := padLevels s.pins.drvA s.pins.lvlA s.pac s.paLatch s.cfg.opt.pullA

/-- The value half of `MemRead` (R76). At `.beyond` there is none: no form below asks for it. -/
def readValue (l : Loc) (s : State) : Byte :=
  match l with
  | .null => 0
  | .mp => 1#1 ++ s.mp
  | .acc => s.acc
  | .pcl => s.pc.extractLsb' 0 8
  | .status => s.status.toByte
  | .intc => s.intc.toByte
  | .tmr => s.tmr
  | .tmrc => s.tmrc.toByte
  | .pa => portRead s.pins.drvA s.pins.lvlA s.pac s.paLatch s.cfg.opt.pullA
  | .pac => s.pac
  | .pb => (portRead s.pins.drvB s.pins.lvlB s.pbc s.pbLatch s.cfg.opt.pullB).zeroExtend 8
  | .pbc => s.pbc.zeroExtend 8
  | .pc => (portRead s.pins.drvC s.pins.lvlC s.pcc s.pcLatch s.cfg.opt.pullC).zeroExtend 8
  | .pcc => s.pcc.zeroExtend 8
  | .unused => 0
  | .ram a => Memory.read s.ram a
  | .beyond => 0

/-- The side effect of a read: reading TMR with TON = 1 may lose a count (R271, R84); no other read has one. -/
def readEffect (l : Loc) (s : State) : State :=
  match l with
  | .tmr => if s.tmrc.ton then s.setTmrRead true else s
  | _ => s

/-- `MemWrite` (R77). A write to PCL is a jump, with its dummy cycle (R24, R321). -/
def writeLoc (l : Loc) (v : Byte) (s : State) : State :=
  match l with
  | .null => s
  | .mp => s.setMp (v.extractLsb' 0 7)
  | .acc => s.setAcc v
  | .pcl => s.goto (pclTarget s.pc v)
  | .status => s.setStatus (s.status.write v)
  | .intc => s.setIntc (Intc.ofByte v)
  | .tmr => s.setTmr v
  | .tmrc => s.setTmrc (Tmrc.ofByte v)
  | .pa => s.setPaLatch v
  | .pac => s.setPac v
  | .pb => s.setPbLatch (v.extractLsb' 0 2)
  | .pbc => s.setPbc (v.extractLsb' 0 2)
  | .pc => s.setPcLatch (v.extractLsb' 0 2)
  | .pcc => s.setPcc (v.extractLsb' 0 2)
  | .unused => s
  | .ram a => s.setRam (Memory.write s.ram a v)
  | .beyond => s

/-- Whether an operand can be accessed at all (R75, D8). -/
def accessible (m : OperandAddr) (s : State) : Bool := decide (locate m s ≠ .beyond)

/-- The byte an instruction obtains for its `[m]`. -/
def operand (m : OperandAddr) (s : State) : Byte := readValue (locate m s) s

/-- The state after that read. -/
def afterRead (m : OperandAddr) (s : State) : State := readEffect (locate m s) s

/-! ### The forms -/

/-- Read `[m]`, write nothing to memory: what the instruction does with the byte is `k` of the byte and the state after the read. -/
def withOperand (m : OperandAddr) (s : State) (k : Byte → State → State) : Result :=
  if accessible m s then .next (k (operand m s) (afterRead m s)) else .refused .pointerOutOfRange

/-- Write `[m]` without reading it (MOV [m],A, CLR [m], SET [m]). -/
def storing (m : OperandAddr) (v : Byte) (s : State) : Result :=
  if accessible m s then .next (writeLoc (locate m s) v s) else .refused .pointerOutOfRange

/-- Read-modify-write of `[m]`, no flag touched (R78): one read, one write at the same effective address. -/
def modifying (m : OperandAddr) (f : Byte → Byte) (s : State) : Result :=
  if accessible m s then .next (writeLoc (locate m s) (f (operand m s)) (afterRead m s))
  else .refused .pointerOutOfRange

/-- Read-modify-write of `[m]` that also writes flags (R78, R79): on STATUS both claim the same bits, which the spec refuses. -/
def modifyingFlags (m : OperandAddr) (f : Byte → Byte) (g : Byte → Status) (s : State) : Result :=
  if !accessible m s then .refused .pointerOutOfRange
  else if locate m s = .status then .refused .statusFlagClash
  else .next ((writeLoc (locate m s) (f (operand m s)) (afterRead m s)).setStatus (g (operand m s)))

/-- Read-modify-write of `[m]` that skips when the result is zero (R209, R214); on PCL the skip and the load disagree, which the spec
refuses (R80). -/
def modifyingSkip (m : OperandAddr) (f : Byte → Byte) (s : State) : Result :=
  if !accessible m s then .refused .pointerOutOfRange
  else if locate m s = .pcl then .refused .skipOnPCL
  else .next ((writeLoc (locate m s) (f (operand m s)) (afterRead m s)).skipIf (decide (f (operand m s) = 0)))

end Sys2Proof.Machine
end

