-- ==== Sys2Proof/Machine/Arithmetic.lean ====
section
/-! DEFINITION. The ten arithmetic instructions (spec/40_arithmetic.md R130 to R141): all over `add8`, all four flags; a subtraction adds
the one's complement. -/

namespace Sys2Proof.Machine

/-- The result of an addition goes to ACC, with its flags (R130). -/
def sumToAcc (r : Sum) (s : State) : State := (s.setAcc r.value).setStatus (s.status.withSum r)

/-- The result of an addition goes to `[m]`, with its flags (R130, R141). -/
def sumToMem (m : OperandAddr) (r : Byte → Sum) (s : State) : Result :=
  modifyingFlags m (fun v => (r v).value) (fun v => s.status.withSum (r v)) s

/-- ADD A,[m] (R131). -/
def execAddAM (m : OperandAddr) (s : State) : Result := withOperand m s fun v t => sumToAcc (add8 s.acc v false) t

/-- ADDM A,[m] (R132). -/
def execAddmAM (m : OperandAddr) (s : State) : Result := sumToMem m (fun v => add8 s.acc v false) s

/-- ADD A,x (R133). -/
def execAddAx (x : Byte) (s : State) : Result := .next (sumToAcc (add8 s.acc x false) s)

/-- ADC A,[m] (R134). -/
def execAdcAM (m : OperandAddr) (s : State) : Result := withOperand m s fun v t => sumToAcc (add8 s.acc v s.status.c) t

/-- ADCM A,[m] (R135). -/
def execAdcmAM (m : OperandAddr) (s : State) : Result := sumToMem m (fun v => add8 s.acc v s.status.c) s

/-- SUB A,x (R136). -/
def execSubAx (x : Byte) (s : State) : Result := .next (sumToAcc (add8 s.acc (~~~x) true) s)

/-- SUB A,[m] (R137). -/
def execSubAM (m : OperandAddr) (s : State) : Result := withOperand m s fun v t => sumToAcc (add8 s.acc (~~~v) true) t

/-- SUBM A,[m] (R138): ACC minus the memory byte, to memory. -/
def execSubmAM (m : OperandAddr) (s : State) : Result := sumToMem m (fun v => add8 s.acc (~~~v) true) s

/-- SBC A,[m] (R139). -/
def execSbcAM (m : OperandAddr) (s : State) : Result := withOperand m s fun v t => sumToAcc (add8 s.acc (~~~v) s.status.c) t

/-- SBCM A,[m] (R140). -/
def execSbcmAM (m : OperandAddr) (s : State) : Result := sumToMem m (fun v => add8 s.acc (~~~v) s.status.c) s

end Sys2Proof.Machine
end

