-- ==== Sys2Proof/Machine/Branch.lean ====
section
/-! DEFINITION. Branches, skips, call and returns (spec/45_branch.md R205 to R222): no flag of STATUS. -/

namespace Sys2Proof.Machine

/-- JMP addr (R208). -/
def execJmp (addr : ProgAddr) (s : State) : Result := .next (s.goto addr)

/-- SZ [m] (R210). -/
def execSzM (m : OperandAddr) (s : State) : Result := withOperand m s fun v t => t.skipIf (decide (v = 0))

/-- SZA [m] (R211): ACC is loaded in both cases. -/
def execSzaM (m : OperandAddr) (s : State) : Result := withOperand m s fun v t => (t.setAcc v).skipIf (decide (v = 0))

/-- SZ [m].i (R212). -/
def execSzMi (m : OperandAddr) (i : BitIndex) (s : State) : Result :=
  withOperand m s fun v t => t.skipIf (!v.getLsbD i.toNat)

/-- SNZ [m].i (R213). -/
def execSnzMi (m : OperandAddr) (i : BitIndex) (s : State) : Result :=
  withOperand m s fun v t => t.skipIf (v.getLsbD i.toNat)

/-- SIZ [m] (R214). -/
def execSizM (m : OperandAddr) (s : State) : Result := modifyingSkip m (fun v => v + 1) s

/-- SDZ [m] (R215). -/
def execSdzM (m : OperandAddr) (s : State) : Result := modifyingSkip m (fun v => v - 1) s

/-- SIZA [m] (R216). -/
def execSizaM (m : OperandAddr) (s : State) : Result :=
  withOperand m s fun v t => (t.setAcc (v + 1)).skipIf (decide (v + 1 = 0))

/-- SDZA [m] (R217). -/
def execSdzaM (m : OperandAddr) (s : State) : Result :=
  withOperand m s fun v t => (t.setAcc (v - 1)).skipIf (decide (v - 1 = 0))

/-- CALL addr (R218): pushes `a + 1`, which `pc` holds. -/
def execCall (addr : ProgAddr) (s : State) : Result := .next ((s.push s.pc).goto addr)

/-- RET (R219): EMI is not changed. -/
def execRet (s : State) : Result := returning (fun t => t) s

/-- RET A,x (R220). -/
def execRetAx (x : Byte) (s : State) : Result := returning (fun t => t.setAcc x) s

/-- RETI (R221). -/
def execReti (s : State) : Result := returning State.enableInterrupts s

end Sys2Proof.Machine
end

