-- ==== Sys2Proof/Machine/Logic.lean ====
section
/-! DEFINITION. The eleven logic instructions (spec/41_logic.md R150 to R161): bitwise, Z and no other flag. -/

namespace Sys2Proof.Machine

/-- A result to ACC that sets Z (R30). -/
def zeroToAcc (v : Byte) (s : State) : State := (s.setAcc v).setStatus (s.status.withZero v)

/-- A result to `[m]` that sets Z (R30). -/
def zeroToMem (m : OperandAddr) (f : Byte → Byte) (s : State) : Result :=
  modifyingFlags m f (fun v => s.status.withZero (f v)) s

/-- AND A,[m] (R151). -/
def execAndAM (m : OperandAddr) (s : State) : Result := withOperand m s fun v t => zeroToAcc (s.acc &&& v) t

/-- OR A,[m] (R152). -/
def execOrAM (m : OperandAddr) (s : State) : Result := withOperand m s fun v t => zeroToAcc (s.acc ||| v) t

/-- XOR A,[m] (R153). -/
def execXorAM (m : OperandAddr) (s : State) : Result := withOperand m s fun v t => zeroToAcc (s.acc ^^^ v) t

/-- ANDM A,[m] (R154). -/
def execAndmAM (m : OperandAddr) (s : State) : Result := zeroToMem m (fun v => s.acc &&& v) s

/-- ORM A,[m] (R155). -/
def execOrmAM (m : OperandAddr) (s : State) : Result := zeroToMem m (fun v => s.acc ||| v) s

/-- XORM A,[m] (R156). -/
def execXormAM (m : OperandAddr) (s : State) : Result := zeroToMem m (fun v => s.acc ^^^ v) s

/-- AND A,x (R157). -/
def execAndAx (x : Byte) (s : State) : Result := .next (zeroToAcc (s.acc &&& x) s)

/-- OR A,x (R158). -/
def execOrAx (x : Byte) (s : State) : Result := .next (zeroToAcc (s.acc ||| x) s)

/-- XOR A,x (R159). -/
def execXorAx (x : Byte) (s : State) : Result := .next (zeroToAcc (s.acc ^^^ x) s)

/-- CPL [m] (R160). -/
def execCplM (m : OperandAddr) (s : State) : Result := zeroToMem m (fun v => ~~~v) s

/-- CPLA [m] (R161). -/
def execCplaM (m : OperandAddr) (s : State) : Result := withOperand m s fun v t => zeroToAcc (~~~v) t

end Sys2Proof.Machine
end

