-- ==== Sys2Proof/Machine/IncDec.lean ====
section
/-! DEFINITION. Increment and decrement (spec/42_incdec.md R170 to R174): modulo 256, Z and no other flag. -/

namespace Sys2Proof.Machine

/-- INCA [m] (R171). -/
def execIncaM (m : OperandAddr) (s : State) : Result := withOperand m s fun v t => zeroToAcc (v + 1) t

/-- INC [m] (R172). -/
def execIncM (m : OperandAddr) (s : State) : Result := zeroToMem m (fun v => v + 1) s

/-- DECA [m] (R173). -/
def execDecaM (m : OperandAddr) (s : State) : Result := withOperand m s fun v t => zeroToAcc (v - 1) t

/-- DEC [m] (R174). -/
def execDecM (m : OperandAddr) (s : State) : Result := zeroToMem m (fun v => v - 1) s

end Sys2Proof.Machine
end

