-- ==== Sys2Proof/Machine/Misc.lean ====
section
/-! DEFINITION. The miscellaneous instructions (spec/46_misc.md R230 to R235). -/

namespace Sys2Proof.Machine

/-- NOP (R231): the program counter has already advanced. -/
def execNop (s : State) : Result := .next s

/-- CLR [m] (R232): `[m]` is not read, Z is not set. -/
def execClrM (m : OperandAddr) (s : State) : Result := storing m 0x00#8 s

/-- SET [m] (R233): `[m]` is not read. -/
def execSetM (m : OperandAddr) (s : State) : Result := storing m 0xFF#8 s

/-- CLR WDT (R234): the last three stages, PD and TO. -/
def execClrWdt (s : State) : Result := .next (s.clearWdt3.writeToPd false false)

/-- HALT (R235): PD set, TO cleared, the last three stages cleared, and no instruction until a wake-up or a reset. -/
def execHalt (s : State) : Result := .next ((s.clearWdt3.writeToPd false true).setHalted true)

end Sys2Proof.Machine
end

