-- ==== Sys2Proof/Machine/MoveBit.lean ====
section
/-! DEFINITION. Data moves and bit operations (spec/44_move_bit.md R195 to R200): no flag. -/

namespace Sys2Proof.Machine

/-- The byte with bit `i` alone set. -/
def bitMask (i : BitIndex) : Byte := 1#8 <<< i.toNat

/-- MOV A,[m] (R196). -/
def execMovAM (m : OperandAddr) (s : State) : Result := withOperand m s fun v t => t.setAcc v

/-- MOV [m],A (R197): `[m]` is not read. -/
def execMovMA (m : OperandAddr) (s : State) : Result := storing m s.acc s

/-- MOV A,x (R198). -/
def execMovAx (x : Byte) (s : State) : Result := .next (s.setAcc x)

/-- CLR [m].i (R199): a read-modify-write of the whole byte. -/
def execClrMi (m : OperandAddr) (i : BitIndex) (s : State) : Result := modifying m (fun v => v &&& ~~~(bitMask i)) s

/-- SET [m].i (R200): a read-modify-write of the whole byte. -/
def execSetMi (m : OperandAddr) (i : BitIndex) (s : State) : Result := modifying m (fun v => v ||| bitMask i) s

end Sys2Proof.Machine
end

