-- ==== Sys2Proof/Machine/Rotate.lean ====
section
/-! DEFINITION. The eight rotates (spec/43_rotate.md R180 to R188), by one place: the plain ones touch no flag, those through carry
write C only. -/

namespace Sys2Proof.Machine

/-- Bits 7 to 1 one place down, a given bit into bit 7. -/
def shiftRightIn (b : Bool) (v : Byte) : Byte := BitVec.ofBool b ++ v.extractLsb' 1 7

/-- Bits 6 to 0 one place up, a given bit into bit 0. -/
def shiftLeftIn (v : Byte) (b : Bool) : Byte := v.extractLsb' 0 7 ++ BitVec.ofBool b

/-- RRA [m] (R181). -/
def execRraM (m : OperandAddr) (s : State) : Result := withOperand m s fun v t => t.setAcc (shiftRightIn (v.getLsbD 0) v)

/-- RR [m] (R182). -/
def execRrM (m : OperandAddr) (s : State) : Result := modifying m (fun v => shiftRightIn (v.getLsbD 0) v) s

/-- RRCA [m] (R183). -/
def execRrcaM (m : OperandAddr) (s : State) : Result :=
  withOperand m s fun v t => (t.setAcc (shiftRightIn s.status.c v)).setStatus (s.status.withCarry (v.getLsbD 0))

/-- RRC [m] (R184). -/
def execRrcM (m : OperandAddr) (s : State) : Result :=
  modifyingFlags m (fun v => shiftRightIn s.status.c v) (fun v => s.status.withCarry (v.getLsbD 0)) s

/-- RLA [m] (R185). -/
def execRlaM (m : OperandAddr) (s : State) : Result := withOperand m s fun v t => t.setAcc (shiftLeftIn v (v.getLsbD 7))

/-- RL [m] (R186). -/
def execRlM (m : OperandAddr) (s : State) : Result := modifying m (fun v => shiftLeftIn v (v.getLsbD 7)) s

/-- RLCA [m] (R187). -/
def execRlcaM (m : OperandAddr) (s : State) : Result :=
  withOperand m s fun v t => (t.setAcc (shiftLeftIn v s.status.c)).setStatus (s.status.withCarry (v.getLsbD 7))

/-- RLC [m] (R188). -/
def execRlcM (m : OperandAddr) (s : State) : Result :=
  modifyingFlags m (fun v => shiftLeftIn v s.status.c) (fun v => s.status.withCarry (v.getLsbD 7)) s

end Sys2Proof.Machine
end

