-- ==== Sys2Proof/Machine/Dispatch.lean ====
section
/-! DEFINITION. One arm per instruction of spec/opcode_table.json, in its order: one direct call of its meaning. -/

namespace Sys2Proof.Machine

def exec (i : Instr) (s : State) : Host.Outcome State Fault Refusal :=
  match i with
  | .addAM m => Sys2Proof.Machine.execAddAM m s
  | .addmAM m => Sys2Proof.Machine.execAddmAM m s
  | .addAx x => Sys2Proof.Machine.execAddAx x s
  | .adcAM m => Sys2Proof.Machine.execAdcAM m s
  | .adcmAM m => Sys2Proof.Machine.execAdcmAM m s
  | .subAx x => Sys2Proof.Machine.execSubAx x s
  | .subAM m => Sys2Proof.Machine.execSubAM m s
  | .submAM m => Sys2Proof.Machine.execSubmAM m s
  | .sbcAM m => Sys2Proof.Machine.execSbcAM m s
  | .sbcmAM m => Sys2Proof.Machine.execSbcmAM m s
  | .andAM m => Sys2Proof.Machine.execAndAM m s
  | .orAM m => Sys2Proof.Machine.execOrAM m s
  | .xorAM m => Sys2Proof.Machine.execXorAM m s
  | .andmAM m => Sys2Proof.Machine.execAndmAM m s
  | .ormAM m => Sys2Proof.Machine.execOrmAM m s
  | .xormAM m => Sys2Proof.Machine.execXormAM m s
  | .andAx x => Sys2Proof.Machine.execAndAx x s
  | .orAx x => Sys2Proof.Machine.execOrAx x s
  | .xorAx x => Sys2Proof.Machine.execXorAx x s
  | .cplM m => Sys2Proof.Machine.execCplM m s
  | .cplaM m => Sys2Proof.Machine.execCplaM m s
  | .incaM m => Sys2Proof.Machine.execIncaM m s
  | .incM m => Sys2Proof.Machine.execIncM m s
  | .decaM m => Sys2Proof.Machine.execDecaM m s
  | .decM m => Sys2Proof.Machine.execDecM m s
  | .rraM m => Sys2Proof.Machine.execRraM m s
  | .rrM m => Sys2Proof.Machine.execRrM m s
  | .rrcaM m => Sys2Proof.Machine.execRrcaM m s
  | .rrcM m => Sys2Proof.Machine.execRrcM m s
  | .rlaM m => Sys2Proof.Machine.execRlaM m s
  | .rlM m => Sys2Proof.Machine.execRlM m s
  | .rlcaM m => Sys2Proof.Machine.execRlcaM m s
  | .rlcM m => Sys2Proof.Machine.execRlcM m s
  | .movAM m => Sys2Proof.Machine.execMovAM m s
  | .movMA m => Sys2Proof.Machine.execMovMA m s
  | .movAx x => Sys2Proof.Machine.execMovAx x s
  | .clrMi m b => Sys2Proof.Machine.execClrMi m b s
  | .setMi m b => Sys2Proof.Machine.execSetMi m b s
  | .jmp addr => Sys2Proof.Machine.execJmp addr s
  | .szM m => Sys2Proof.Machine.execSzM m s
  | .szaM m => Sys2Proof.Machine.execSzaM m s
  | .szMi m b => Sys2Proof.Machine.execSzMi m b s
  | .snzMi m b => Sys2Proof.Machine.execSnzMi m b s
  | .sizM m => Sys2Proof.Machine.execSizM m s
  | .sdzM m => Sys2Proof.Machine.execSdzM m s
  | .sizaM m => Sys2Proof.Machine.execSizaM m s
  | .sdzaM m => Sys2Proof.Machine.execSdzaM m s
  | .call addr => Sys2Proof.Machine.execCall addr s
  | .ret => Sys2Proof.Machine.execRet s
  | .retAx x => Sys2Proof.Machine.execRetAx x s
  | .reti => Sys2Proof.Machine.execReti s
  | .nop => Sys2Proof.Machine.execNop s
  | .clrM m => Sys2Proof.Machine.execClrM m s
  | .setM m => Sys2Proof.Machine.execSetM m s
  | .clrWdt => Sys2Proof.Machine.execClrWdt s
  | .halt => Sys2Proof.Machine.execHalt s

end Sys2Proof.Machine
end

