-- ==== Sys2Proof/Machine/Reset.lean ====
section
/-! DEFINITION. The five resets (spec/70_reset_and_hazards.md R300 to R308; the values of spec/10_state.md R60, R61). -/

namespace Sys2Proof.Machine

/-- What columns (2), (3) and (4) of R60 share: the program counter, the stack, INTC, TMRC, the ports, the watchdog counter and the halt
to their initial condition; PRESC unknown (R61, log 28); everything else unchanged: RAM by D19, the bits of STACK by choice (log 36).
It leaves what R310 lists: every pin an input and every latch 1 (2), interrupts disabled and none pending (3), the timer off in an unused
mode (4), the watchdog cleared and counting on unless OP13 disables it (5), and the stack empty (7). -/
def State.chipReset (s : State) : State :=
  { s with pc := 0, stackFull := false, halted := false, wdt3 := 0, intc := Intc.reset, tmrc := Tmrc.reset,
           paLatch := 0xFF#8, pac := 0xFF#8, pbLatch := 3, pbc := 3, pcLatch := 3, pcc := 3,
           presc := Config.prescAfterReset s.draws, draws := s.draws + 1, tmrRead := false }

/-- Column (2), a watchdog time-out in normal operation: TO is set, PD unchanged, no start-up delay (R302, D28). -/
def State.wdtReset (s : State) : State := s.chipReset.setStatus { s.status with tmo := true }

/-- Column (5), a watchdog time-out during HALT, the warm reset: only the program counter and the stack are reset, and TO is set (R254,
R305); WDT3 is 0 and PRESC unknown as R61 has them, STACK keeps its bits by choice (log 36); a wake-up, so with the start-up delay (R251).
INTC and the requests stay, so an interrupt can be acceptable at the next turn of the core, ahead of the word at 000H (log 37). -/
def State.warmReset (s : State) : State :=
  { s with pc := 0, stackFull := false, halted := false, status := { s.status with tmo := true }, wdt3 := 0,
           presc := Config.prescAfterReset s.draws, draws := s.draws + 1, cycles := s.cycles + Config.sstCycles }

/-- Columns (3) and (4), RES low: in normal operation the flags stay; during HALT, TO is 0 and PD is 1, and the start-up delay is added
(R303, C13). -/
def State.resReset (s : State) : State :=
  if s.halted then
    (s.chipReset.setStatus { s.status with tmo := false, pd := true }).setCycles (s.cycles + Config.sstCycles)
  else s.chipReset

/-- Column (1), a system power-up: every value the spec calls unknown is a free value (R60 to R62, R301): ACC, MP,
TMR, C, AC, Z, OV and all RAM, as R310 (1) lists them; TO and PD are 0 (R310 (6), R306). -/
def State.powerUp (s : State) : State :=
  { s.chipReset with
      acc := Config.powerOnAcc s.draws, mp := Config.powerOnMp s.draws, tmr := Config.powerOnTmr s.draws,
      status := { c := (Config.powerOnFlags s.draws).getLsbD 0, ac := (Config.powerOnFlags s.draws).getLsbD 1,
                  z := (Config.powerOnFlags s.draws).getLsbD 2, ov := (Config.powerOnFlags s.draws).getLsbD 3,
                  pd := false, tmo := false },
      ram := Memory.fill (Config.powerOnRam s.draws), stack := Config.powerOnStack s.draws,
      cycles := s.cycles + Config.sstCycles }

end Sys2Proof.Machine
end

