-- ==== Sys2Proof/Machine/Peripherals.lean ====
section
/-! DEFINITION. What the environment's events do: requests and wake-up, the timer/event counter, the prescaler and the watchdog, the
pads and RES (spec/60_exceptions.md R242 to R277, spec/70_reset_and_hazards.md R303). -/

namespace Sys2Proof.Machine

/-! ### Wake-up and requests -/

/-- Leaving halt mode, with the start-up delay (R251, R304). -/
def State.wake (s : State) : State := (s.setHalted false).setCycles (s.cycles + Config.sstCycles)

/-- Wake-up by a request; one more cycle where it leads to an interrupt acknowledgment (R253). -/
def State.wakeByRequest (s : State) : State :=
  if s.acceptable .external || s.acceptable .timer then s.wake.setCycles (s.wake.cycles + 1) else s.wake

/-- Hardware sets request flags, whatever the enables hold (R242, R243); a flag that goes from 0 to 1 while halted wakes (R253). -/
def raiseRequests (eif tf : Bool) (s : State) : State :=
  let t := s.setIntc { s.intc with eif := s.intc.eif || eif, tf := s.intc.tf || tf }
  if s.halted && ((eif && !s.intc.eif) || (tf && !s.intc.tf)) then t.wakeByRequest else t

/-! ### The timer/event counter -/

/-- The operating modes, (TM1, TM0) (R38, R268, R269, D13). -/
inductive TimerMode where
  | eventCount
  | timer
  | unused
deriving DecidableEq, Repr

/-- The mode the register selects: 01 event count, 10 timer, 00 and 11 unused. -/
def Tmrc.mode (t : Tmrc) : TimerMode :=
  match t.tm1, t.tm0 with
  | false, true => .eventCount
  | true, false => .timer
  | _, _ => .unused

/-- Whether the active clock now coming is lost to a read of TMR that it coincides with: free (R271, D31). -/
def State.losesCount (s : State) : Bool := s.tmrRead && Config.timerReadLosesCount s.draws

/-- The window of a read takes at most one count (D31). -/
def State.closeWindow (s : State) : State := if s.tmrRead then (s.setTmrRead false).setDraws (s.draws + 1) else s

/-- One active clock: TMR counts up modulo 256 (R270, D15), or the count is lost (R271). -/
def State.count (s : State) : State := if s.losesCount then s.closeWindow else s.closeWindow.setTmr (s.tmr + 1)

/-- Whether that active clock overflows the counter (R270). -/
def State.overflows (s : State) : Bool := !s.losesCount && decide (s.tmr = 0xFF#8)

/-- One tick of the internal clock the options select for the timer (R267 to R270). -/
def timerClock (s : State) : Result :=
  if !s.tmrc.ton then .next s
  else match s.tmrc.mode with
    | .timer => .next (raiseRequests false s.overflows s.count)
    | .eventCount => .next s
    | .unused => .refused .timerModeUnused

/-- An edge on the pad that INT and TMR share (R242, R268, R273): falling sets EIF; the edge TE chooses counts in event count mode. -/
def padEdge (falling : Bool) (s : State) : Result :=
  if s.tmrc.ton && (s.tmrc.te == falling) then
    match s.tmrc.mode with
    | .eventCount => .next (raiseRequests falling s.overflows s.count)
    | .timer => .next (raiseRequests falling false s)
    | .unused => .refused .timerModeUnused
  else .next (raiseRequests falling false s)

/-! ### The prescaler and the watchdog -/

/-- The prescaler's division by `2^k` ticks when its low `k` bits return to zero (R260, R267, log 22). -/
def tapTicks (k : Nat) (p : BitVec 8) : Bool := decide (p.toNat % 2 ^ k = 0)

/-- Whether the watchdog's tap, division by `2^(n+5)`, ticks; never with the watchdog disabled (R260, R265). -/
def State.wdtTapTicks (s : State) : Bool := !s.cfg.opt.wdtDisable && tapTicks (s.cfg.opt.wdtDiv.toNat + 5) s.presc

/-- Whether the timer's tap, division by `2^(n+1)`, ticks (R267). -/
def State.tmrTapTicks (s : State) : Bool := tapTicks (s.cfg.opt.tmrPresc.toNat + 1) s.presc

/-- A watchdog time-out: a chip reset in normal operation (R262), the warm reset during halt (R254). -/
def wdtTimeout (s : State) : State := if s.halted then s.warmReset else s.wdtReset

/-- One tick of the tap into the 3-stage counter: the eighth after a clear is the time-out (R260, R263). -/
def wdtClock (s : State) : State := if s.wdt3 = 7#3 then wdtTimeout s else s.setWdt3 (s.wdt3 + 1)

/-- A tick that reaches the watchdog, the timer, both or neither. Where one tick brings both a count and a time-out, their order is free
(log 23). -/
def clockBoth (wdt tmr : Bool) (s : State) : Result :=
  match wdt, tmr with
  | false, false => .next s
  | true, false => .next (wdtClock s)
  | false, true => timerClock s
  | true, true =>
    if s.wdt3 = 7#3 then
      if Config.countBeforeTimeout s.draws then
        match timerClock (s.setDraws (s.draws + 1)) with
        | .next t => .next (wdtClock t)
        | .fault r => .fault r
        | .refused r => .refused r
      else timerClock (wdtClock (s.setDraws (s.draws + 1)))
    else timerClock (wdtClock s)

/-- One tick of the prescaler's source. -/
def State.prescTick (s : State) : State := s.setPresc (s.presc + 1)

/-- A tick of the instruction clock: it feeds the timer directly (OP19 = 0) and the prescaler (OP12 = 1); it stands still in halt
(R250, R260, R267, R272). -/
def instrClock (s : State) : Result :=
  if s.halted then .next s
  else if s.cfg.opt.prescSrc then
    clockBoth s.prescTick.wdtTapTicks (if s.cfg.opt.tmrSrc then s.prescTick.tmrTapTicks else true) s.prescTick
  else clockBoth false (!s.cfg.opt.tmrSrc) s

/-- A tick of the WDT RC oscillator: it feeds the prescaler (OP12 = 0), also in halt (R250, R260, R272); with the watchdog disabled the
oscillator runs as RCOSC_RUNS says (D32). -/
def rcClock (s : State) : Result :=
  if s.cfg.opt.prescSrc || (s.cfg.opt.wdtDisable && !s.cfg.rcoscRuns) then .next s
  else clockBoth s.prescTick.wdtTapTicks (s.cfg.opt.tmrSrc && s.prescTick.tmrTapTicks) s.prescTick

/-! ### The pads -/

/-- The INT/TMR pad is now at a level: a change is an edge (R242, R268). -/
def intPad (level : Bool) (s : State) : Result :=
  if s.pins.int = level then .next s else padEdge (!level) (s.setPins { s.pins with int := level })

/-- New levels on port A: a falling edge on a pin with the wake-up option, while halted, wakes (R252). -/
def portAPads (drv lvl : BitVec 8) (s : State) : State :=
  let t := s.setPins { s.pins with drvA := drv, lvlA := lvl }
  if s.halted && decide (s.padA &&& ~~~t.padA &&& s.cfg.opt.wake ≠ 0) then t.wake else t

/-- RES is now at a level: going low resets, and the chip is held in reset while it is low (R303, log 25). -/
def resPin (level : Bool) (s : State) : State :=
  if level then s.setPins { s.pins with res := true }
  else if s.pins.res then s.resReset.setPins { s.pins with res := false }
  else s

/-- What the outside sees on a pin (R275): the latch bit of an output; an input is high impedance, pulled high by option. -/
inductive PinView where
  | drives (b : Bool)
  | pulledHigh
  | highImpedance
deriving DecidableEq, Repr

/-- That view, from a pin's control bit, latch bit and pull-high option (R275, R276). -/
def pinView (ctl latch pull : Bool) : PinView :=
  if ctl then (if pull then .pulledHigh else .highImpedance) else .drives latch

/-- Pin PAj as the outside sees it. -/
def State.viewA (s : State) (j : Fin 8) : PinView :=
  pinView (s.pac.getLsbD j) (s.paLatch.getLsbD j) (s.cfg.opt.pullA.getLsbD j)

/-- Pin PBj as the outside sees it. -/
def State.viewB (s : State) (j : Fin 2) : PinView :=
  pinView (s.pbc.getLsbD j) (s.pbLatch.getLsbD j) (s.cfg.opt.pullB.getLsbD j)

/-- Pin PCj as the outside sees it. -/
def State.viewC (s : State) (j : Fin 2) : PinView :=
  pinView (s.pcc.getLsbD j) (s.pcLatch.getLsbD j) (s.cfg.opt.pullC.getLsbD j)

/-! ### One event -/

/-- What an event does. While RES is low only the levels on the pads, RES itself and the power matter (R303, log 25). -/
def applyEvent (e : Event) (s : State) : Result :=
  match e with
  | .instrClock => if s.pins.res then instrClock s else .next s
  | .rcClock => if s.pins.res then rcClock s else .next s
  | .intPad level => if s.pins.res then intPad level s else .next (s.setPins { s.pins with int := level })
  | .portA drv lvl =>
    if s.pins.res then .next (portAPads drv lvl s) else .next (s.setPins { s.pins with drvA := drv, lvlA := lvl })
  | .portB drv lvl => .next (s.setPins { s.pins with drvB := drv, lvlB := lvl })
  | .portC drv lvl => .next (s.setPins { s.pins with drvC := drv, lvlC := lvl })
  | .resPin level => .next (resPin level s)
  | .powerUp => .next s.powerUp

end Sys2Proof.Machine
end

