-- ==== Sys2Proof/Machine/CoreTurn.lean ====
section
/-! DEFINITION. The core's turn, one instruction boundary (spec/60_exceptions.md R247): an acceptable interrupt is entered instead of the
instruction at `pc`; otherwise that instruction runs. The decoder is a parameter (spec/30_encoding.md R102). -/

namespace Sys2Proof.Machine

/-- Fetch, decode and execute (R22, R72, R102, R120). -/
def runInstr (dec : CodeWord → Option Instr) (s : State) : Result :=
  match dec (fetch s s.pc) with
  | some i => exec i s.begin
  | none => .refused .illegalWord

/-- The core does nothing while RES is low (R303) or while it is halted (R45, R250); else the external interrupt comes first (R249),
then the timer's, then the instruction at `pc`. DESIGN CHOICE (log 37): the core's first turn after the warm reset is a boundary like any
other, so an interrupt acceptable there is entered before the word at 000H runs; R305 and R308 leave open which comes first. -/
def coreTurn (dec : CodeWord → Option Instr) (s : State) : Result :=
  if !s.pins.res then .next s
  else if s.halted then .next s
  else if s.acceptable .external then .next (interruptEntry .external s)
  else if s.acceptable .timer then .next (interruptEntry .timer s)
  else runInstr dec s

/-- One step with a decoder given: the next turn of the schedule, or the core's when none is left (log 7). -/
def stepWith (dec : CodeWord → Option Instr) (s : State) : Result :=
  match s.env with
  | [] => coreTurn dec s
  | .core :: rest => coreTurn dec (s.setEnv rest)
  | .event e :: rest => applyEvent e (s.setEnv rest)

/-- Store a word of program memory, as a device programmer does. -/
def State.program (s : State) (a : ProgAddr) (w : CodeWord) : State := s.setProm (Memory.insert a.toNat w s.prom)

end Sys2Proof.Machine
end

