-- ==== Sys2Proof/Machine/Step.lean ====
section
/-! DEFINITION. The step of the machine, with the reference decoder, and where its next instruction is fetched. -/

namespace Sys2Proof.Machine

/-- One step: one turn of the schedule, decoding by the reference encoding (log 5). -/
def step (s : State) : Host.Outcome State Fault Refusal := stepWith decode s

/-- The instruction whose bits are `w` stored at `pc`, where the core fetches next (log 29). -/
def State.withFetchWord (s : State) (nbits w : Nat) : State := s.program s.pc (BitVec.ofNat 14 (w % 2 ^ nbits))

end Sys2Proof.Machine
end

