-- ==== Sys2Proof/Safety.lean ====
section
/-! DEFINITION. What counts as a well-formed state and a safe run: the terms the statements use. -/

namespace Sys2Proof

/-! ### What an instruction names -/

/-- The data address field of an instruction that has a `[m]` operand (spec/30_encoding.md R104). -/
def Instr.memOperand : Instr → Option OperandAddr
  | .addAM m => some m
  | .addmAM m => some m
  | .addAx _ => none
  | .adcAM m => some m
  | .adcmAM m => some m
  | .subAx _ => none
  | .subAM m => some m
  | .submAM m => some m
  | .sbcAM m => some m
  | .sbcmAM m => some m
  | .andAM m => some m
  | .orAM m => some m
  | .xorAM m => some m
  | .andmAM m => some m
  | .ormAM m => some m
  | .xormAM m => some m
  | .andAx _ => none
  | .orAx _ => none
  | .xorAx _ => none
  | .cplM m => some m
  | .cplaM m => some m
  | .incaM m => some m
  | .incM m => some m
  | .decaM m => some m
  | .decM m => some m
  | .rraM m => some m
  | .rrM m => some m
  | .rrcaM m => some m
  | .rrcM m => some m
  | .rlaM m => some m
  | .rlM m => some m
  | .rlcaM m => some m
  | .rlcM m => some m
  | .movAM m => some m
  | .movMA m => some m
  | .movAx _ => none
  | .clrMi m _ => some m
  | .setMi m _ => some m
  | .jmp _ => none
  | .szM m => some m
  | .szaM m => some m
  | .szMi m _ => some m
  | .snzMi m _ => some m
  | .sizM m => some m
  | .sdzM m => some m
  | .sizaM m => some m
  | .sdzaM m => some m
  | .call _ => none
  | .ret => none
  | .retAx _ => none
  | .reti => none
  | .nop => none
  | .clrM m => some m
  | .setM m => some m
  | .clrWdt => none
  | .halt => none

/-- The same instruction with another data address (and itself where it has none). -/
def Instr.withMemOperand (n : OperandAddr) : Instr → Instr
  | .addAM _ => .addAM n
  | .addmAM _ => .addmAM n
  | .addAx x => .addAx x
  | .adcAM _ => .adcAM n
  | .adcmAM _ => .adcmAM n
  | .subAx x => .subAx x
  | .subAM _ => .subAM n
  | .submAM _ => .submAM n
  | .sbcAM _ => .sbcAM n
  | .sbcmAM _ => .sbcmAM n
  | .andAM _ => .andAM n
  | .orAM _ => .orAM n
  | .xorAM _ => .xorAM n
  | .andmAM _ => .andmAM n
  | .ormAM _ => .ormAM n
  | .xormAM _ => .xormAM n
  | .andAx x => .andAx x
  | .orAx x => .orAx x
  | .xorAx x => .xorAx x
  | .cplM _ => .cplM n
  | .cplaM _ => .cplaM n
  | .incaM _ => .incaM n
  | .incM _ => .incM n
  | .decaM _ => .decaM n
  | .decM _ => .decM n
  | .rraM _ => .rraM n
  | .rrM _ => .rrM n
  | .rrcaM _ => .rrcaM n
  | .rrcM _ => .rrcM n
  | .rlaM _ => .rlaM n
  | .rlM _ => .rlM n
  | .rlcaM _ => .rlcaM n
  | .rlcM _ => .rlcM n
  | .movAM _ => .movAM n
  | .movMA _ => .movMA n
  | .movAx x => .movAx x
  | .clrMi _ i => .clrMi n i
  | .setMi _ i => .setMi n i
  | .jmp addr => .jmp addr
  | .szM _ => .szM n
  | .szaM _ => .szaM n
  | .szMi _ i => .szMi n i
  | .snzMi _ i => .snzMi n i
  | .sizM _ => .sizM n
  | .sdzM _ => .sdzM n
  | .sizaM _ => .sizaM n
  | .sdzaM _ => .sdzaM n
  | .call addr => .call addr
  | .ret => .ret
  | .retAx x => .retAx x
  | .reti => .reti
  | .nop => .nop
  | .clrM _ => .clrM n
  | .setM _ => .setM n
  | .clrWdt => .clrWdt
  | .halt => .halt

/-- Whether the instruction's destination is its `[m]`: "result to data memory" (spec/30_encoding.md R123). -/
def Instr.storesToMem : Instr → Bool
  | .addAM _ => false
  | .addmAM _ => true
  | .addAx _ => false
  | .adcAM _ => false
  | .adcmAM _ => true
  | .subAx _ => false
  | .subAM _ => false
  | .submAM _ => true
  | .sbcAM _ => false
  | .sbcmAM _ => true
  | .andAM _ => false
  | .orAM _ => false
  | .xorAM _ => false
  | .andmAM _ => true
  | .ormAM _ => true
  | .xormAM _ => true
  | .andAx _ => false
  | .orAx _ => false
  | .xorAx _ => false
  | .cplM _ => true
  | .cplaM _ => false
  | .incaM _ => false
  | .incM _ => true
  | .decaM _ => false
  | .decM _ => true
  | .rraM _ => false
  | .rrM _ => true
  | .rrcaM _ => false
  | .rrcM _ => true
  | .rlaM _ => false
  | .rlM _ => true
  | .rlcaM _ => false
  | .rlcM _ => true
  | .movAM _ => false
  | .movMA _ => true
  | .movAx _ => false
  | .clrMi _ _ => true
  | .setMi _ _ => true
  | .jmp _ => false
  | .szM _ => false
  | .szaM _ => false
  | .szMi _ _ => false
  | .snzMi _ _ => false
  | .sizM _ => true
  | .sdzM _ => true
  | .sizaM _ => false
  | .sdzaM _ => false
  | .call _ => false
  | .ret => false
  | .retAx _ => false
  | .reti => false
  | .nop => false
  | .clrM _ => true
  | .setM _ => true
  | .clrWdt => false
  | .halt => false

/-- Which flags an instruction writes as a side effect: a row of the table of spec/10_state.md R35. -/
structure FlagRow where
  ov : Bool
  z : Bool
  ac : Bool
  c : Bool
  pdTo : Bool
deriving DecidableEq, Repr

/-- The row of the ten additions and subtractions. -/
def FlagRow.sum : FlagRow := { ov := true, z := true, ac := true, c := true, pdTo := false }

/-- The row of the logic instructions and of INC, INCA, DEC, DECA. -/
def FlagRow.zero : FlagRow := { ov := false, z := true, ac := false, c := false, pdTo := false }

/-- The row of the rotates through carry. -/
def FlagRow.carry : FlagRow := { ov := false, z := false, ac := false, c := true, pdTo := false }

/-- The row of CLR WDT and HALT. -/
def FlagRow.watchdog : FlagRow := { ov := false, z := false, ac := false, c := false, pdTo := true }

/-- The row of everything else. -/
def FlagRow.none : FlagRow := { ov := false, z := false, ac := false, c := false, pdTo := false }

/-- The table of spec/10_state.md R35. -/
def Instr.flagRow : Instr → FlagRow
  | .addAM _ => .sum
  | .addmAM _ => .sum
  | .addAx _ => .sum
  | .adcAM _ => .sum
  | .adcmAM _ => .sum
  | .subAx _ => .sum
  | .subAM _ => .sum
  | .submAM _ => .sum
  | .sbcAM _ => .sum
  | .sbcmAM _ => .sum
  | .andAM _ => .zero
  | .orAM _ => .zero
  | .xorAM _ => .zero
  | .andmAM _ => .zero
  | .ormAM _ => .zero
  | .xormAM _ => .zero
  | .andAx _ => .zero
  | .orAx _ => .zero
  | .xorAx _ => .zero
  | .cplM _ => .zero
  | .cplaM _ => .zero
  | .incaM _ => .zero
  | .incM _ => .zero
  | .decaM _ => .zero
  | .decM _ => .zero
  | .rraM _ => .none
  | .rrM _ => .none
  | .rrcaM _ => .carry
  | .rrcM _ => .carry
  | .rlaM _ => .none
  | .rlM _ => .none
  | .rlcaM _ => .carry
  | .rlcM _ => .carry
  | .movAM _ => .none
  | .movMA _ => .none
  | .movAx _ => .none
  | .clrMi _ _ => .none
  | .setMi _ _ => .none
  | .jmp _ => .none
  | .szM _ => .none
  | .szaM _ => .none
  | .szMi _ _ => .none
  | .snzMi _ _ => .none
  | .sizM _ => .none
  | .sdzM _ => .none
  | .sizaM _ => .none
  | .sdzaM _ => .none
  | .call _ => .none
  | .ret => .none
  | .retAx _ => .none
  | .reti => .none
  | .nop => .none
  | .clrM _ => .none
  | .setM _ => .none
  | .clrWdt => .watchdog
  | .halt => .watchdog

end Sys2Proof

namespace Sys2Proof.Machine

/-- The condition the chip is held in while RES is low: column (3) or (4) of spec/10_state.md R60 (R303). -/
structure State.InReset (s : State) : Prop where
  pc : s.pc = 0
  stackFull : s.stackFull = false
  halted : s.halted = false
  wdt3 : s.wdt3 = 0
  intc : s.intc = Intc.reset
  tmrc : s.tmrc = Tmrc.reset
  portA : s.paLatch = 0xFF#8 ∧ s.pac = 0xFF#8
  portB : s.pbLatch = 3 ∧ s.pbc = 3
  portC : s.pcLatch = 3 ∧ s.pcc = 3

/-- The invariant of the machine. -/
structure State.Inv (s : State) : Prop where
  /-- Data memory keeps its canonical form, within 20H to 3FH (R41). -/
  ram : Memory.wf s.ram = true
  /-- Program memory keeps its canonical form, within 000H to 1FFH (R71). -/
  prom : Memory.promWf s.prom = true
  /-- The window of a TMR read is open only while the counter is on (R271). -/
  window : s.tmrRead = true → s.tmrc.ton = true
  /-- In halt mode it is closed: it ends with the next instruction, and HALT is one (R271, log 20). -/
  haltWindow : s.halted = true → s.tmrRead = false
  /-- In halt mode with the watchdog enabled PD is 1 and TO is 0, as HALT left them (R235, R250). -/
  haltFlags : s.halted = true → s.cfg.opt.wdtDisable = false → s.status.pd = true ∧ s.status.tmo = false
  /-- While RES is low the chip is in reset (R303). -/
  heldInReset : s.pins.res = false → s.InReset

/-! ### When the core runs an instruction -/

/-- It is the core's turn, and `rest` is the schedule after it (log 7). -/
def State.coreNext (s : State) (rest : List Turn) : Prop := (s.env = [] ∧ rest = []) ∨ s.env = .core :: rest

/-- The core is about to run the instruction at `pc`: RES is high, it is not halted, and no interrupt is acceptable (R245, R247). -/
def State.runsNext (s : State) : Bool :=
  s.pins.res && !s.halted && !s.acceptable .external && !s.acceptable .timer

/-! ### The prescaler, in numbers -/

/-- The event is a tick of what feeds the prescaler: OP12 selects it (R260); the instruction clock stands still in halt (R250), and with the
watchdog disabled the RC oscillator runs as RCOSC_RUNS says (D32, log 21). -/
def State.feedsPrescaler (s : State) (e : Event) : Bool :=
  if s.cfg.opt.prescSrc then decide (e = .instrClock) && !s.halted
  else decide (e = .rcClock) && (!s.cfg.opt.wdtDisable || s.cfg.rcoscRuns)

/-- The prescaler's next tick completes a period of its division by `2 ^ k` (R260, R267; at which count of PRESC is log 22). -/
def State.tapCompletes (s : State) (k : Nat) : Bool := decide ((s.presc.toNat + 1) % 2 ^ k = 0)

/-- A tick of this clock completes the watchdog's division by `2^(n+5)`, with the watchdog enabled (R260, R265). -/
def State.wdtTicks (s : State) (e : Event) : Bool :=
  s.feedsPrescaler e && !s.cfg.opt.wdtDisable && s.tapCompletes (s.cfg.opt.wdtDiv.toNat + 5)

/-- That tick is the watchdog's time-out: the eighth since WDT3 was cleared (R260, R263). -/
def State.wdtTimesOut (s : State) (e : Event) : Bool := s.wdtTicks e && decide (s.wdt3.toNat = 7)

/-- A tick of this clock is a clock of the timer: with OP19 = 1 where it completes the prescaler's division by `2^(n+1)`, with OP19 = 0
where it is the instruction clock, which stands still in halt (R250, R267, R272). -/
def State.timerTicks (s : State) (e : Event) : Bool :=
  if s.cfg.opt.tmrSrc then s.feedsPrescaler e && s.tapCompletes (s.cfg.opt.tmrPresc.toNat + 1)
  else decide (e = .instrClock) && !s.halted

/-- What a tick of this clock does that is no time-out, beside the timer: the prescaler moves where it is fed, and WDT3 where its division
completes (R260). `rest` is the schedule after it. -/
def State.afterTick (s : State) (e : Event) (rest : List Turn) : State :=
  { s with
    env := rest,
    presc := if s.feedsPrescaler e then BitVec.ofNat 8 (s.presc.toNat + 1) else s.presc,
    wdt3 := if s.wdtTicks e then BitVec.ofNat 3 (s.wdt3.toNat + 1) else s.wdt3 }

/-! ### What an addition and a subtraction leave, in numbers -/

/-- `r` and `st` are the byte and the flags of ACC + `v` + `cin` (spec/10_state.md R28 to R31, spec/40_arithmetic.md R130): C the carry out of
bit 7, AC the carry out of bit 3, OV the signed overflow, Z a zero result; PD and TO as they were. -/
def AddsToAcc (s : State) (v : Byte) (cin : Nat) (r : Byte) (st : Status) : Prop :=
  r.toNat = (s.acc.toNat + v.toNat + cin) % 256 ∧
  (st.c = true ↔ 256 ≤ s.acc.toNat + v.toNat + cin) ∧
  (st.ac = true ↔ 16 ≤ s.acc.toNat % 16 + v.toNat % 16 + cin) ∧
  (st.ov = true ↔ s.acc.toInt + v.toInt + cin < -128 ∨ 127 < s.acc.toInt + v.toInt + cin) ∧
  (st.z = true ↔ r.toNat = 0) ∧ st.pd = s.status.pd ∧ st.tmo = s.status.tmo

/-- `r` and `st` are the byte and the flags of ACC - `v` - `borrow` (R130, R139): C and AC are 1 where there is NO borrow. -/
def SubtractsFromAcc (s : State) (v : Byte) (borrow : Nat) (r : Byte) (st : Status) : Prop :=
  r.toNat = (s.acc.toNat + 256 - v.toNat - borrow) % 256 ∧
  (st.c = true ↔ v.toNat + borrow ≤ s.acc.toNat) ∧
  (st.ac = true ↔ v.toNat % 16 + borrow ≤ s.acc.toNat % 16) ∧
  (st.ov = true ↔ s.acc.toInt - v.toInt - borrow < -128 ∨ 127 < s.acc.toInt - v.toInt - borrow) ∧
  (st.z = true ↔ r.toNat = 0) ∧ st.pd = s.status.pd ∧ st.tmo = s.status.tmo

/-! ### Results -/

/-- The state a result ends in satisfies a predicate (and the result is a next state). -/
def endsIn (r : Result) (p : State → Bool) : Bool :=
  match r with
  | .next s => p s
  | .fault _ => false
  | .refused _ => false

/-- The result is this refusal. -/
def refusesWith (r : Result) (why : Refusal) : Bool :=
  match r with
  | .next _ => false
  | .fault _ => false
  | .refused w => decide (w = why)

end Sys2Proof.Machine
end

