-- ==== Sys2Proof/Certificates/Slice0/Obligations.lean ====
section
/-! DEFINITION. The statements for the provers. Each docstring names the rule of spec/ it formalises. In every statement about `exec` the
state is the one the instruction executes in, whose `pc` is `a + 1` already (spec/10_state.md R22): StepRunsTheDecodedInstruction carries
it to a step. `afterRead m s` is `s` but for the window of a TMR read (ReadingTmrOpensTheWindow says exactly when). `accessible m s` is every
operand below 40H; OperandWriteFollowsTheMap says that from 40H on every instruction is refused (decision D8, log 13). -/

open Sys2Proof Sys2Proof.Machine

/-! ### Encoding -/

/-- Words written out from the reference encoding (spec/30_encoding.md R104), one or two of each family, decode to their instructions. The
encoding is the spec's reference encoding, which the source does not give (D1, log 5). -/
def Obligations.DecodeReadsTheReferenceWords : Prop :=
  decode 0b00001100100000#14 = some (.addAM 0x20) ∧ decode 0b00101001010000#14 = some (.subAx 0x50) ∧
  decode 0b00011010100101#14 = some (.andmAM 0x25) ∧ decode 0b01010110100111#14 = some (.decM 0x27) ∧
  decode 0b01101110101000#14 = some (.rrcM 0x28) ∧ decode 0b00000010010011#14 = some (.movMA 0x13) ∧
  decode 0b11011110101010#14 = some (.clrMi 0x2A 7) ∧ decode 0b10100111111111#14 = some (.jmp 0x1FF) ∧
  decode 0b10000100000000#14 = some (.call 0x100) ∧ decode 0b11100100001010#14 = some (.snzMi 0x0A 2) ∧
  decode 0b00000000000100#14 = some .reti ∧ decode 0b00000000000010#14 = some .halt

/-- R103, R104, R105: the decoder reads back every instruction from its word, with every operand at every value. The encoding is the spec's
reference encoding, which the source does not give (D1, log 5). -/
def Obligations.DecodeOfEncodeIsTheInstruction : Prop :=
  ∀ i : Instr, i.wellFormed = true → decode (encode i) = some i

/-- R103, R104: a word that decodes is the word of what it decodes to, so no bit of a word is ignored. The encoding is the spec's reference
encoding (D1, log 5), whose unoccupied bits are 0 (D3, log 6). -/
def Obligations.DecodedWordIsItsOwnEncoding : Prop :=
  ∀ (w : CodeWord) (i : Instr), decode w = some i → encode i = w

/-- R120: exactly the listed words decode to nothing, and a step that fetches one is refused as IllegalWord (decision D2 of the spec, log 6;
the words are those of the reference encoding, log 5). -/
def Obligations.ReservedWordsAreRefused : Prop :=
  (∀ w : CodeWord, decode w = none ↔
    (0x0005 ≤ w.toNat ∧ w.toNat ≤ 0x007F) ∨
    (0x0080 ≤ w.toNat ∧ w.toNat < 0x0780 ∧ w.toNat / 64 % 2 = 1) ∨
    (0x0780 ≤ w.toNat ∧ w.toNat ≤ 0x07FF) ∨
    (0x0800 ≤ w.toNat ∧ w.toNat ≤ 0x08FF) ∨
    (0x1000 ≤ w.toNat ∧ w.toNat < 0x2000 ∧ w.toNat / 64 % 2 = 1) ∨
    (0x1100 ≤ w.toNat ∧ w.toNat ≤ 0x11FF) ∨
    (0x1C00 ≤ w.toNat ∧ w.toNat ≤ 0x1EFF) ∨
    (0x2000 ≤ w.toNat ∧ w.toNat < 0x3000 ∧ w.toNat / 512 % 4 ≠ 0) ∨
    (0x3000 ≤ w.toNat ∧ w.toNat / 64 % 2 = 1)) ∧
  (∀ (s : State) (rest : List Turn), s.coreNext rest → s.runsNext = true → decode (fetch s s.pc) = none →
    step s = .refused .illegalWord)

/-! ### The step -/

/-- R22, R72, R247: at a boundary where the core runs, a step is the meaning of the decoded instruction, on the state whose program counter
has been incremented by the fetch. The model's own fields beside it: one instruction cycle is counted (log 24), the window of an earlier TMR
read is closed (log 20), and where the schedule gives the core its turn that turn is used up (log 7). Where a boundary falls is decision D16
(log 8), and the fetch wraps past 1FFH (decision D33, log 26). -/
def Obligations.StepRunsTheDecodedInstruction : Prop :=
  ∀ (s : State) (i : Instr), s.runsNext = true → decode (fetch s s.pc) = some i → i.wellFormed = true →
    (s.env = [] → step s = exec i { s with pc := s.pc + 1, tmrRead := false, cycles := s.cycles + 1 }) ∧
    (∀ rest, s.env = .core :: rest →
      step s = exec i { s with env := rest, pc := s.pc + 1, tmrRead := false, cycles := s.cycles + 1 })

/-- R133, R136, R157, R158, R159, R198: at a boundary where the core runs, the six immediate instructions, from the word the reference
encoding gives each (the model's choice of encoding, log 5) to the state after: the result and the flags of the rule (AND A,x leaves OV,
resolution C1, log 32), the counter at the next word (past 1FFH it wraps, decision D33, log 26), one cycle (log 24), the window of an
earlier TMR read closed (log 20), and nothing else changed: no memory access and no refusal. -/
def Obligations.ImmediateInstructionStep : Prop :=
  ∀ (s : State) (rest : List Turn) (x : Byte), s.coreNext rest → s.runsNext = true →
    let ends (r : Byte) (st : Status) : Result :=
      .next { s with env := rest, acc := r, status := st, pc := s.pc + 1, tmrRead := false, cycles := s.cycles + 1 }
    let endsZ (r : Byte) : Result := ends r { s.status with z := decide (r = 0) }
    ((fetch s s.pc).toNat = 0x0B00 + x.toNat → ∃ r st, step s = ends r st ∧ AddsToAcc s x 0 r st) ∧
    ((fetch s s.pc).toNat = 0x0A00 + x.toNat → ∃ r st, step s = ends r st ∧ SubtractsFromAcc s x 0 r st) ∧
    ((fetch s s.pc).toNat = 0x0E00 + x.toNat →
      ∃ r, step s = endsZ r ∧ ∀ k < 8, r.getLsbD k = (s.acc.getLsbD k && x.getLsbD k)) ∧
    ((fetch s s.pc).toNat = 0x0D00 + x.toNat →
      ∃ r, step s = endsZ r ∧ ∀ k < 8, r.getLsbD k = (s.acc.getLsbD k || x.getLsbD k)) ∧
    ((fetch s s.pc).toNat = 0x0C00 + x.toNat →
      ∃ r, step s = endsZ r ∧ ∀ k < 8, r.getLsbD k = (s.acc.getLsbD k ^^ x.getLsbD k)) ∧
    ((fetch s s.pc).toNat = 0x0F00 + x.toNat → step s = ends x s.status)

/-- R208, R231: at a boundary where the core runs, the word 2800H + addr is JMP addr, which loads the counter and takes two cycles, and the
word 0000H is NOP, which changes the counter alone and takes one. The model's choices: the reference encoding (log 5), the cycles (log 24),
the window of an earlier TMR read closed (log 20), and NOP at 1FFH going on at 000H (decision D33, log 26). -/
def Obligations.JumpAndNopStep : Prop :=
  ∀ (s : State) (rest : List Turn) (addr : ProgAddr), s.coreNext rest → s.runsNext = true →
    ((fetch s s.pc).toNat = 0x2800 + addr.toNat →
      step s = .next { s with env := rest, pc := addr, tmrRead := false, cycles := s.cycles + 2 }) ∧
    ((fetch s s.pc).toNat = 0x0000 →
      step s = .next { s with
        env := rest, pc := BitVec.ofNat 9 ((s.pc.toNat + 1) % 512), tmrRead := false, cycles := s.cycles + 1 })

/-- R72 (the placement is the model's, log 29): the word stored where the step fetches is the word fetched, and every other address holds
what it held. -/
def Obligations.FetchReadsTheProgrammedWord : Prop :=
  ∀ (s : State) (w : Nat), w < 2 ^ 14 →
    fetch (s.withFetchWord 16 w) (s.withFetchWord 16 w).pc = BitVec.ofNat 14 w ∧
    ∀ a : ProgAddr, a ≠ s.pc → fetch (s.withFetchWord 16 w) a = fetch s a

/-- R45: `halted` is 1 from the execution of HALT until a wake-up or a reset, and 0 after every reset; while it is 1 no instruction
executes. HALT sets it and no other instruction or event does; while it is 1 the core's turn changes nothing, nor does a tick of the
instruction clock (R250); and what clears it is a power-up, RES low, a watchdog time-out, an event on port A, or a request flag that goes
from 0 to 1. -/
def Obligations.HaltedCoreWaits : Prop :=
  (∀ s t : State, exec .halt s = .next t → t.halted = true) ∧
  (∀ s t : State, s.halted = false → step s = .next t → t.halted = true →
    s.pins.res = true ∧ decode (fetch s s.pc) = some .halt ∧ ∃ rest, s.coreNext rest) ∧
  (∀ s : State, s.halted = true →
    (s.env = [] → step s = .next s) ∧
    (∀ rest, s.env = .core :: rest → step s = .next { s with env := rest }) ∧
    (∀ rest, s.env = .event .instrClock :: rest → step s = .next { s with env := rest })) ∧
  (∀ s t : State, s.halted = true → step s = .next t → t.halted = false →
    ∃ e rest, s.env = .event e :: rest ∧
      (e = .powerUp ∨ e = .resPin false ∨ (t.pc = 0 ∧ t.status.tmo = true) ∨ (∃ drv lvl, e = .portA drv lvl) ∨
        (s.intc.eif = false ∧ t.intc.eif = true) ∨ (s.intc.tf = false ∧ t.intc.tf = true))) ∧
  (∀ (s t : State) (rest : List Turn), step s = .next t →
    (s.env = .event .powerUp :: rest ∨ (s.pins.res = true ∧ s.env = .event (.resPin false) :: rest)) → t.halted = false) ∧
  (∀ s : State, (wdtTimeout s).halted = false)

/-- R303 (held in reset while RES is low; log 25): the core does nothing, and neither clock does. -/
def Obligations.CoreIsHeldWhileResIsLow : Prop :=
  ∀ s : State, s.pins.res = false →
    (s.env = [] → step s = .next s) ∧
    (∀ rest, s.env = .core :: rest → step s = .next { s with env := rest }) ∧
    (∀ rest, s.env = .event .instrClock :: rest → step s = .next { s with env := rest }) ∧
    (∀ rest, s.env = .event .rcClock :: rest → step s = .next { s with env := rest })

/-! ### The memory operand -/

/-- R74, R76: the byte an instruction obtains for `[m]`, for every effective address `e` from 00H to 3FH, bit by bit for the packed
registers and the ports. The model's choices within it: PCL reads the low byte of a + 1 (decision D6, log 12); the operand can be accessed
exactly below 40H (decision D8, log 13); bits 7 to 2 of PBC and PCC read 0 (decision D10, log 14); and what the pad of an input pin is at
(log 9): the level it is driven to, or, undriven, high by option and else the level it floats at. -/
def Obligations.OperandReadFollowsTheMap : Prop :=
  ∀ (m : OperandAddr) (s : State),
    effectiveAddr m s = (if m = 0 then s.mp else m.zeroExtend 7) ∧
    let e := (effectiveAddr m s).toNat
    let v := operand m s
    (accessible m s = true ↔ e < 0x40) ∧
    (e = 0x00 → v = 0) ∧
    (e = 0x01 → v.toNat = 128 + s.mp.toNat) ∧
    (e = 0x05 → v = s.acc) ∧
    (e = 0x06 → v.toNat = s.pc.toNat % 256) ∧
    (e = 0x0A → v.getLsbD 0 = s.status.c ∧ v.getLsbD 1 = s.status.ac ∧ v.getLsbD 2 = s.status.z ∧
      v.getLsbD 3 = s.status.ov ∧ v.getLsbD 4 = s.status.pd ∧ v.getLsbD 5 = s.status.tmo ∧
      v.getLsbD 6 = false ∧ v.getLsbD 7 = false) ∧
    (e = 0x0B → v.getLsbD 0 = s.intc.emi ∧ v.getLsbD 1 = s.intc.eei ∧ v.getLsbD 2 = s.intc.eti ∧
      v.getLsbD 3 = false ∧ v.getLsbD 4 = s.intc.eif ∧ v.getLsbD 5 = s.intc.tf ∧
      v.getLsbD 6 = false ∧ v.getLsbD 7 = false) ∧
    (e = 0x0D → v = s.tmr) ∧
    (e = 0x0E → v.getLsbD 0 = false ∧ v.getLsbD 1 = false ∧ v.getLsbD 2 = false ∧ v.getLsbD 3 = s.tmrc.te ∧
      v.getLsbD 4 = s.tmrc.ton ∧ v.getLsbD 5 = false ∧ v.getLsbD 6 = s.tmrc.tm0 ∧ v.getLsbD 7 = s.tmrc.tm1) ∧
    (e = 0x12 → ∀ j < 8, v.getLsbD j = if s.pac.getLsbD j then
      (if s.pins.drvA.getLsbD j then s.pins.lvlA.getLsbD j else s.cfg.opt.pullA.getLsbD j || s.pins.lvlA.getLsbD j)
      else s.paLatch.getLsbD j) ∧
    (e = 0x13 → v = s.pac) ∧
    (e = 0x14 → ∀ j, v.getLsbD j = if s.pbc.getLsbD j then
      (if s.pins.drvB.getLsbD j then s.pins.lvlB.getLsbD j else s.cfg.opt.pullB.getLsbD j || s.pins.lvlB.getLsbD j)
      else s.pbLatch.getLsbD j) ∧
    (e = 0x15 → v.toNat = s.pbc.toNat) ∧
    (e = 0x16 → ∀ j, v.getLsbD j = if s.pcc.getLsbD j then
      (if s.pins.drvC.getLsbD j then s.pins.lvlC.getLsbD j else s.cfg.opt.pullC.getLsbD j || s.pins.lvlC.getLsbD j)
      else s.pcLatch.getLsbD j) ∧
    (e = 0x17 → v.toNat = s.pcc.toNat) ∧
    (0x20 ≤ e → e < 0x40 → v = Memory.read s.ram e) ∧
    (e ∈ [0x02, 0x03, 0x04, 0x07, 0x08, 0x09, 0x0C, 0x0F, 0x10, 0x11] ∨ (0x18 ≤ e ∧ e < 0x20) → v = 0)

/-- R84, R271, decision D31 of the spec (log 20): a read changes nothing but, at 0DH with TON = 1, the mark that the counter's clock was
blocked. -/
def Obligations.ReadingTmrOpensTheWindow : Prop :=
  ∀ (m : OperandAddr) (s : State),
    ((effectiveAddr m s).toNat = 0x0D → s.tmrc.ton = true → afterRead m s = { s with tmrRead := true }) ∧
    ((effectiveAddr m s).toNat ≠ 0x0D ∨ s.tmrc.ton = false → afterRead m s = s)

/-- R77: what storing the byte `v` to `[m]` does, for every effective address `e` from 00H to 3FH; in RAM it changes that byte and no
other, and keeps the canonical form. A port write goes to the latch, and reaches the pin only where the control bit is 0. The model's
choices within it: bit 8 of the counter after a PCL write (decision D7, log 12) and its cycle (log 24), software setting EIF and TF (D12,
log 16), the unused addresses and the absent bits (D9, D10, log 14), and the refusal of every instruction from 40H on (D8, log 13). -/
def Obligations.OperandWriteFollowsTheMap : Prop :=
  ∀ (m : OperandAddr) (v : Byte) (s : State),
    let e := (effectiveAddr m s).toNat
    let t := writeLoc (locate m s) v s
    (e = 0x00 → t = s) ∧
    (e = 0x01 → t = { s with mp := BitVec.ofNat 7 v.toNat }) ∧
    (e = 0x05 → t = { s with acc := v }) ∧
    (e = 0x06 → t = { s with pc := BitVec.ofNat 9 (s.pc.toNat / 256 * 256 + v.toNat), cycles := s.cycles + 1 }) ∧
    (e = 0x0A → t = { s with status := { s.status with
      c := v.getLsbD 0, ac := v.getLsbD 1, z := v.getLsbD 2, ov := v.getLsbD 3 } }) ∧
    (e = 0x0B → t = { s with intc := {
      emi := v.getLsbD 0, eei := v.getLsbD 1, eti := v.getLsbD 2, eif := v.getLsbD 4, tf := v.getLsbD 5 } }) ∧
    (e = 0x0D → t = { s with tmr := v }) ∧
    (e = 0x0E → t = { s with tmrc := { te := v.getLsbD 3, ton := v.getLsbD 4, tm0 := v.getLsbD 6, tm1 := v.getLsbD 7 } }) ∧
    (e = 0x12 → t = { s with paLatch := v } ∧
      ∀ j : Fin 8, t.viewA j = if s.pac.getLsbD j then s.viewA j else .drives (v.getLsbD j)) ∧
    (e = 0x13 → t = { s with pac := v }) ∧
    (e = 0x14 → t = { s with pbLatch := BitVec.ofNat 2 v.toNat } ∧
      ∀ j : Fin 2, t.viewB j = if s.pbc.getLsbD j then s.viewB j else .drives (v.getLsbD j)) ∧
    (e = 0x15 → t = { s with pbc := BitVec.ofNat 2 v.toNat }) ∧
    (e = 0x16 → t = { s with pcLatch := BitVec.ofNat 2 v.toNat } ∧
      ∀ j : Fin 2, t.viewC j = if s.pcc.getLsbD j then s.viewC j else .drives (v.getLsbD j)) ∧
    (e = 0x17 → t = { s with pcc := BitVec.ofNat 2 v.toNat }) ∧
    (0x20 ≤ e → e < 0x40 → Memory.wf s.ram = true → t = { s with ram := t.ram } ∧ Memory.wf t.ram = true ∧
      ∀ a, Memory.read t.ram a = if a = e then v else Memory.read s.ram a) ∧
    (e ∈ [0x02, 0x03, 0x04, 0x07, 0x08, 0x09, 0x0C, 0x0F, 0x10, 0x11] ∨ (0x18 ≤ e ∧ e < 0x20) → t = s) ∧
    (0x40 ≤ e → ∀ i : Instr, i.memOperand = some m → exec i s = .refused .pointerOutOfRange)

/-- R25, R27: MP and STATUS as data memory. MP reads 128 + MP, a write transfers the low seven bits, and no event but a power-up changes it;
STATUS reads its six flags, and 0 in bits 6 and 7. -/
def Obligations.MpAndStatusAsDataMemory : Prop :=
  (∀ (m : OperandAddr) (s : State), (effectiveAddr m s).toNat = 0x01 →
    operand m s = BitVec.ofNat 8 (128 + s.mp.toNat) ∧
    ∀ v : Byte, ∃ r : BitVec 7, writeLoc (locate m s) v s = { s with mp := r } ∧ ∀ k < 7, r.getLsbD k = v.getLsbD k) ∧
  (∀ (s t : State) (e : Event) (rest : List Turn), e ≠ .powerUp → s.env = .event e :: rest → step s = .next t → t.mp = s.mp) ∧
  (∀ (m : OperandAddr) (s : State), (effectiveAddr m s).toNat = 0x0A →
    ∀ k, (operand m s).getLsbD k =
      (([s.status.c, s.status.ac, s.status.z, s.status.ov, s.status.pd, s.status.tmo] : List Bool).getD k false))

/-- R75: an indirect access (`m` = 00H) of every instruction with a `[m]` operand. With MP in 01H to 3FH it is exactly the direct access to
that address; with MP in 40H to 7FH it is refused (decision D8 of the spec, log 13); with MP = 00H the read returns 00H and the write does
nothing. -/
def Obligations.IndirectAccessGoesThroughMp : Prop :=
  (∀ (i : Instr) (s : State), i.memOperand = some 0 → 0 < s.mp.toNat → s.mp.toNat < 0x40 →
    exec i s = exec (i.withMemOperand (BitVec.ofNat 6 s.mp.toNat)) s) ∧
  (∀ (i : Instr) (s : State), i.memOperand = some 0 → 0x40 ≤ s.mp.toNat → exec i s = .refused .pointerOutOfRange) ∧
  (∀ (s : State) (v : Byte), s.mp.toNat = 0 → accessible 0 s = true ∧ operand 0 s = 0 ∧ writeLoc (locate 0 s) v s = s)

/-! ### Results: arithmetic -/

/-- R131, R133, R134, R136, R137, R139: the additions and subtractions whose result goes to ACC, for every operand that can be accessed.
That SUB A,[m] writes OV is the spec's resolution C2 of two tables that disagree (log 32). -/
def Obligations.ArithmeticToAccResult : Prop :=
  (∀ (m : OperandAddr) (s : State), accessible m s = true →
    (∃ r st, exec (.addAM m) s = .next { afterRead m s with acc := r, status := st } ∧
      AddsToAcc s (operand m s) 0 r st) ∧
    (∃ r st, exec (.adcAM m) s = .next { afterRead m s with acc := r, status := st } ∧
      AddsToAcc s (operand m s) s.status.c.toNat r st) ∧
    (∃ r st, exec (.subAM m) s = .next { afterRead m s with acc := r, status := st } ∧
      SubtractsFromAcc s (operand m s) 0 r st) ∧
    (∃ r st, exec (.sbcAM m) s = .next { afterRead m s with acc := r, status := st } ∧
      SubtractsFromAcc s (operand m s) (1 - s.status.c.toNat) r st)) ∧
  (∀ (x : Byte) (s : State),
    (∃ r st, exec (.addAx x) s = .next { s with acc := r, status := st } ∧ AddsToAcc s x 0 r st) ∧
    (∃ r st, exec (.subAx x) s = .next { s with acc := r, status := st } ∧ SubtractsFromAcc s x 0 r st))

/-- R132, R135, R138, R140: the additions and subtractions whose result goes to `[m]`; the minuend is ACC. STATUS as destination is
FlagWriterOnStatusIsRefused's (decision D11, log 15). -/
def Obligations.ArithmeticToMemoryResult : Prop :=
  ∀ (m : OperandAddr) (s : State), accessible m s = true → locate m s ≠ .status →
    (∃ r st, exec (.addmAM m) s = .next { writeLoc (locate m s) r (afterRead m s) with status := st } ∧
      AddsToAcc s (operand m s) 0 r st) ∧
    (∃ r st, exec (.adcmAM m) s = .next { writeLoc (locate m s) r (afterRead m s) with status := st } ∧
      AddsToAcc s (operand m s) s.status.c.toNat r st) ∧
    (∃ r st, exec (.submAM m) s = .next { writeLoc (locate m s) r (afterRead m s) with status := st } ∧
      SubtractsFromAcc s (operand m s) 0 r st) ∧
    (∃ r st, exec (.sbcmAM m) s = .next { writeLoc (locate m s) r (afterRead m s) with status := st } ∧
      SubtractsFromAcc s (operand m s) (1 - s.status.c.toNat) r st)

/-- R79: the twelve instructions that write flags and store to `[m]` are refused on STATUS (data 0AH, direct or through MP), in every state;
the nine that write no flag and store to `[m]` run there. The refusal is decision D11 of the spec (log 15). -/
def Obligations.FlagWriterOnStatusIsRefused : Prop :=
  ∀ (m : OperandAddr) (s : State), (effectiveAddr m s).toNat = 0x0A →
    (∀ i ∈ [Instr.addmAM m, .adcmAM m, .submAM m, .sbcmAM m, .andmAM m, .ormAM m, .xormAM m, .cplM m, .incM m,
      .decM m, .rrcM m, .rlcM m], exec i s = .refused .statusFlagClash) ∧
    (∀ i ∈ [Instr.movMA m, .clrM m, .setM m, .rrM m, .rlM m, .sizM m, .sdzM m], ∃ t, exec i s = .next t) ∧
    (∀ b : BitIndex, (∃ t, exec (.clrMi m b) s = .next t) ∧ ∃ t, exec (.setMi m b) s = .next t)

/-! ### Results: logic, increment, decrement -/

/-- R151 to R153, R157 to R159, R161: the logic instructions whose result goes to ACC, bit by bit; Z and no other flag. AND A,[m] and AND
A,x leave OV alone by the spec's resolution C1 of two tables that disagree (log 32). -/
def Obligations.LogicToAccResult : Prop :=
  (∀ (m : OperandAddr) (s : State), accessible m s = true →
    (∃ r, exec (.andAM m) s = .next { afterRead m s with acc := r, status := { s.status with z := decide (r = 0) } } ∧
      ∀ k < 8, r.getLsbD k = (s.acc.getLsbD k && (operand m s).getLsbD k)) ∧
    (∃ r, exec (.orAM m) s = .next { afterRead m s with acc := r, status := { s.status with z := decide (r = 0) } } ∧
      ∀ k < 8, r.getLsbD k = (s.acc.getLsbD k || (operand m s).getLsbD k)) ∧
    (∃ r, exec (.xorAM m) s = .next { afterRead m s with acc := r, status := { s.status with z := decide (r = 0) } } ∧
      ∀ k < 8, r.getLsbD k = (s.acc.getLsbD k ^^ (operand m s).getLsbD k)) ∧
    (∃ r, exec (.cplaM m) s = .next { afterRead m s with acc := r, status := { s.status with z := decide (r = 0) } } ∧
      ∀ k < 8, r.getLsbD k = !(operand m s).getLsbD k)) ∧
  (∀ (x : Byte) (s : State),
    (∃ r, exec (.andAx x) s = .next { s with acc := r, status := { s.status with z := decide (r = 0) } } ∧
      ∀ k < 8, r.getLsbD k = (s.acc.getLsbD k && x.getLsbD k)) ∧
    (∃ r, exec (.orAx x) s = .next { s with acc := r, status := { s.status with z := decide (r = 0) } } ∧
      ∀ k < 8, r.getLsbD k = (s.acc.getLsbD k || x.getLsbD k)) ∧
    (∃ r, exec (.xorAx x) s = .next { s with acc := r, status := { s.status with z := decide (r = 0) } } ∧
      ∀ k < 8, r.getLsbD k = (s.acc.getLsbD k ^^ x.getLsbD k)))

/-- R154 to R156, R160: the logic instructions whose result goes to `[m]`, bit by bit; Z and no other flag. ANDM leaves OV alone by the
spec's resolution C1 of two tables that disagree (log 32). STATUS as destination is FlagWriterOnStatusIsRefused's (decision D11, log 15). -/
def Obligations.LogicToMemoryResult : Prop :=
  ∀ (m : OperandAddr) (s : State), accessible m s = true → locate m s ≠ .status →
    (∃ r, exec (.andmAM m) s = .next { writeLoc (locate m s) r (afterRead m s) with
        status := { s.status with z := decide (r = 0) } } ∧
      ∀ k < 8, r.getLsbD k = (s.acc.getLsbD k && (operand m s).getLsbD k)) ∧
    (∃ r, exec (.ormAM m) s = .next { writeLoc (locate m s) r (afterRead m s) with
        status := { s.status with z := decide (r = 0) } } ∧
      ∀ k < 8, r.getLsbD k = (s.acc.getLsbD k || (operand m s).getLsbD k)) ∧
    (∃ r, exec (.xormAM m) s = .next { writeLoc (locate m s) r (afterRead m s) with
        status := { s.status with z := decide (r = 0) } } ∧
      ∀ k < 8, r.getLsbD k = (s.acc.getLsbD k ^^ (operand m s).getLsbD k)) ∧
    (∃ r, exec (.cplM m) s = .next { writeLoc (locate m s) r (afterRead m s) with
        status := { s.status with z := decide (r = 0) } } ∧
      ∀ k < 8, r.getLsbD k = !(operand m s).getLsbD k)

/-- R171 to R174: increment and decrement modulo 256, to ACC or to `[m]`; Z and no other flag, so a wrap does not touch C. STATUS as
destination is FlagWriterOnStatusIsRefused's (decision D11, log 15). -/
def Obligations.IncrementDecrementResult : Prop :=
  ∀ (m : OperandAddr) (s : State), accessible m s = true →
    (∃ r, exec (.incaM m) s = .next { afterRead m s with acc := r, status := { s.status with z := decide (r = 0) } } ∧
      r.toNat = ((operand m s).toNat + 1) % 256) ∧
    (∃ r, exec (.decaM m) s = .next { afterRead m s with acc := r, status := { s.status with z := decide (r = 0) } } ∧
      r.toNat = ((operand m s).toNat + 255) % 256) ∧
    (locate m s ≠ .status →
      (∃ r, exec (.incM m) s = .next { writeLoc (locate m s) r (afterRead m s) with
          status := { s.status with z := decide (r = 0) } } ∧ r.toNat = ((operand m s).toNat + 1) % 256) ∧
      (∃ r, exec (.decM m) s = .next { writeLoc (locate m s) r (afterRead m s) with
          status := { s.status with z := decide (r = 0) } } ∧ r.toNat = ((operand m s).toNat + 255) % 256))

/-! ### Results: rotates -/

/-- R181, R183, R185, R187: the rotates whose result goes to ACC, bit by bit; the plain ones touch no flag, those through carry C only. -/
def Obligations.RotateToAccResult : Prop :=
  ∀ (m : OperandAddr) (s : State), accessible m s = true →
    (∃ r, exec (.rraM m) s = .next { afterRead m s with acc := r } ∧
      (∀ k < 7, r.getLsbD k = (operand m s).getLsbD (k + 1)) ∧ r.getLsbD 7 = (operand m s).getLsbD 0) ∧
    (∃ r, exec (.rlaM m) s = .next { afterRead m s with acc := r } ∧
      (∀ k < 7, r.getLsbD (k + 1) = (operand m s).getLsbD k) ∧ r.getLsbD 0 = (operand m s).getLsbD 7) ∧
    (∃ r, exec (.rrcaM m) s = .next { afterRead m s with
        acc := r, status := { s.status with c := (operand m s).getLsbD 0 } } ∧
      (∀ k < 7, r.getLsbD k = (operand m s).getLsbD (k + 1)) ∧ r.getLsbD 7 = s.status.c) ∧
    (∃ r, exec (.rlcaM m) s = .next { afterRead m s with
        acc := r, status := { s.status with c := (operand m s).getLsbD 7 } } ∧
      (∀ k < 7, r.getLsbD (k + 1) = (operand m s).getLsbD k) ∧ r.getLsbD 0 = s.status.c)

/-- R182, R184, R186, R188: the rotates whose result goes to `[m]`; RR and RL run on STATUS too. STATUS as destination of RRC and RLC is
FlagWriterOnStatusIsRefused's (decision D11, log 15). -/
def Obligations.RotateToMemoryResult : Prop :=
  ∀ (m : OperandAddr) (s : State), accessible m s = true →
    (∃ r, exec (.rrM m) s = .next (writeLoc (locate m s) r (afterRead m s)) ∧
      (∀ k < 7, r.getLsbD k = (operand m s).getLsbD (k + 1)) ∧ r.getLsbD 7 = (operand m s).getLsbD 0) ∧
    (∃ r, exec (.rlM m) s = .next (writeLoc (locate m s) r (afterRead m s)) ∧
      (∀ k < 7, r.getLsbD (k + 1) = (operand m s).getLsbD k) ∧ r.getLsbD 0 = (operand m s).getLsbD 7) ∧
    (locate m s ≠ .status →
      (∃ r, exec (.rrcM m) s = .next { writeLoc (locate m s) r (afterRead m s) with
          status := { s.status with c := (operand m s).getLsbD 0 } } ∧
        (∀ k < 7, r.getLsbD k = (operand m s).getLsbD (k + 1)) ∧ r.getLsbD 7 = s.status.c) ∧
      (∃ r, exec (.rlcM m) s = .next { writeLoc (locate m s) r (afterRead m s) with
          status := { s.status with c := (operand m s).getLsbD 7 } } ∧
        (∀ k < 7, r.getLsbD (k + 1) = (operand m s).getLsbD k) ∧ r.getLsbD 0 = s.status.c))

/-! ### Results: moves, bits, stores -/

/-- R196, R198: the loads of ACC; no flag. -/
def Obligations.MoveToAccResult : Prop :=
  (∀ (m : OperandAddr) (s : State), accessible m s = true →
    exec (.movAM m) s = .next { afterRead m s with acc := operand m s }) ∧
  (∀ (x : Byte) (s : State), exec (.movAx x) s = .next { s with acc := x })

/-- R197, R232, R233: the stores that do not read `[m]`; no flag, and no window opened. -/
def Obligations.PlainStoreResult : Prop :=
  ∀ (m : OperandAddr) (s : State), accessible m s = true →
    exec (.movMA m) s = .next (writeLoc (locate m s) s.acc s) ∧
    exec (.clrM m) s = .next (writeLoc (locate m s) 0x00#8 s) ∧
    exec (.setM m) s = .next (writeLoc (locate m s) 0xFF#8 s)

/-- R199, R200: bit `b` of the byte read is cleared or set, every other bit is written back as read; no flag. -/
def Obligations.BitOperationResult : Prop :=
  ∀ (m : OperandAddr) (b : BitIndex) (s : State), accessible m s = true →
    (∃ r, exec (.clrMi m b) s = .next (writeLoc (locate m s) r (afterRead m s)) ∧
      ∀ k < 8, r.getLsbD k = if k = b.toNat then false else (operand m s).getLsbD k) ∧
    (∃ r, exec (.setMi m b) s = .next (writeLoc (locate m s) r (afterRead m s)) ∧
      ∀ k < 8, r.getLsbD k = if k = b.toNat then true else (operand m s).getLsbD k)

/-- R197, R196, R41: a byte stored to RAM by MOV [m],A is what MOV A,[m] then reads, whatever ACC held in between. -/
def Obligations.StoredByteIsLoadedBack : Prop :=
  ∀ (m : OperandAddr) (s t : State) (y : Byte) (a : Nat), Memory.wf s.ram = true → locate m s = .ram a →
    exec (.movMA m) s = .next t →
    exec (.movAM m) { t with acc := y } = .next { t with acc := s.acc }

/-! ### Results: control flow -/

/-- R206, R208, R218: JMP loads the counter; CALL pushes the address of the next instruction first, over whatever a full stack held. Both
take the dummy cycle. The stack as one word and a full bit is decision D4 (log 10); the count of cycles is the model's (log 24). -/
def Obligations.JumpAndCallResult : Prop :=
  ∀ (addr : ProgAddr) (s : State),
    exec (.jmp addr) s = .next { s with pc := addr, cycles := s.cycles + 1 } ∧
    exec (.call addr) s = .next { s with stack := s.pc, stackFull := true, pc := addr, cycles := s.cycles + 1 }

/-- R209, R210, R212, R213: the skips that write nothing. Taken, the counter goes one word further (modulo 512) for one more cycle; not
taken, nothing changes. The model's choices within it: an untaken skip takes no second cycle (resolution C8 of the spec, log 35; the count
of cycles, log 24), and the counter wraps past 1FFH (decision D33, log 26). -/
def Obligations.SkipOnOperandResult : Prop :=
  ∀ (m : OperandAddr) (b : BitIndex) (s : State), accessible m s = true →
    let skipped : State :=
      { afterRead m s with pc := BitVec.ofNat 9 ((s.pc.toNat + 1) % 512), cycles := s.cycles + 1 }
    ((operand m s).toNat = 0 → exec (.szM m) s = .next skipped) ∧
    ((operand m s).toNat ≠ 0 → exec (.szM m) s = .next (afterRead m s)) ∧
    ((operand m s).getLsbD b.toNat = false → exec (.szMi m b) s = .next skipped ∧ exec (.snzMi m b) s = .next (afterRead m s)) ∧
    ((operand m s).getLsbD b.toNat = true → exec (.szMi m b) s = .next (afterRead m s) ∧ exec (.snzMi m b) s = .next skipped)

/-- R209, R211, R216, R217: the skips that load ACC, in both cases, and write no flag. The model's choices within it: an untaken skip takes
no second cycle (resolution C8 of the spec, log 35; the count of cycles, log 24), and the counter wraps past 1FFH (decision D33, log 26). -/
def Obligations.SkipLoadingAccResult : Prop :=
  ∀ (m : OperandAddr) (s : State), accessible m s = true →
    let ends (r : Byte) : Result :=
      if r.toNat = 0 then
        .next { afterRead m s with acc := r, pc := BitVec.ofNat 9 ((s.pc.toNat + 1) % 512), cycles := s.cycles + 1 }
      else .next { afterRead m s with acc := r }
    exec (.szaM m) s = ends (operand m s) ∧
    exec (.sizaM m) s = ends (BitVec.ofNat 8 ((operand m s).toNat + 1)) ∧
    exec (.sdzaM m) s = ends (BitVec.ofNat 8 ((operand m s).toNat + 255))

/-- R209, R214, R215: the skips that write `[m]`, in both cases; the result goes through MemWrite and no flag is written as a side effect.
The model's choices within it: an untaken skip takes no second cycle (resolution C8 of the spec, log 35; the count of cycles, log 24), and
the counter wraps past 1FFH (decision D33, log 26). PCL as destination is SkipOnPclIsRefused's (decision D7, log 12). -/
def Obligations.SkipStoringResult : Prop :=
  ∀ (m : OperandAddr) (s : State), accessible m s = true → locate m s ≠ .pcl →
    let ends (r : Byte) : Result :=
      if r.toNat = 0 then
        .next { writeLoc (locate m s) r (afterRead m s) with
          pc := BitVec.ofNat 9 ((s.pc.toNat + 1) % 512), cycles := s.cycles + 1 }
      else .next (writeLoc (locate m s) r (afterRead m s))
    exec (.sizM m) s = ends (BitVec.ofNat 8 ((operand m s).toNat + 1)) ∧
    exec (.sdzM m) s = ends (BitVec.ofNat 8 ((operand m s).toNat + 255))

/-- R80: SIZ and SDZ with PCL as destination, direct or through MP, are refused (decision D7 of the spec, log 12). -/
def Obligations.SkipOnPclIsRefused : Prop :=
  ∀ (m : OperandAddr) (s : State), (effectiveAddr m s).toNat = 0x06 →
    exec (.sizM m) s = .refused .skipOnPCL ∧ exec (.sdzM m) s = .refused .skipOnPCL

/-- R207, R219, R220, R221: the returns. With something pushed they load the counter from the stack and empty it, RET A,x loads ACC and RETI
sets EMI; with nothing pushed they are refused (decision D5 of the spec, log 11). The stack as one word and a full bit is decision D4 (log
10); the count of cycles is the model's (log 24). -/
def Obligations.ReturnResult : Prop :=
  ∀ (x : Byte) (s : State),
    (s.stackFull = true →
      exec .ret s = .next { s with pc := s.stack, stackFull := false, cycles := s.cycles + 1 } ∧
      exec (.retAx x) s = .next { s with pc := s.stack, stackFull := false, cycles := s.cycles + 1, acc := x } ∧
      exec .reti s = .next { s with
        pc := s.stack, stackFull := false, cycles := s.cycles + 1, intc := { s.intc with emi := true } }) ∧
    (s.stackFull = false →
      exec .ret s = .refused .stackUnderflow ∧ exec (.retAx x) s = .refused .stackUnderflow ∧
      exec .reti s = .refused .stackUnderflow)

/-- R231, R234, R235, R265: NOP, CLR WDT and HALT. With the watchdog enabled CLR WDT and HALT clear WDT3 and write TO and PD; with it
disabled WDT3 is left alone and the parameter WDT_OFF_FLAG_WRITES says whether TO and PD are written (decision D21 of the spec, log 21).
HALT halts in every case. -/
def Obligations.WatchdogInstructionsResult : Prop :=
  ∀ s : State,
    exec .nop s = .next s ∧
    (s.cfg.opt.wdtDisable = false →
      exec .clrWdt s = .next { s with wdt3 := 0, status := { s.status with tmo := false, pd := false } } ∧
      exec .halt s = .next { s with wdt3 := 0, status := { s.status with tmo := false, pd := true }, halted := true }) ∧
    (s.cfg.opt.wdtDisable = true → s.cfg.wdtOffFlagWrites = true →
      exec .clrWdt s = .next { s with status := { s.status with tmo := false, pd := false } } ∧
      exec .halt s = .next { s with status := { s.status with tmo := false, pd := true }, halted := true }) ∧
    (s.cfg.opt.wdtDisable = true → s.cfg.wdtOffFlagWrites = false →
      exec .clrWdt s = .next s ∧ exec .halt s = .next { s with halted := true })

/-! ### Interrupts -/

/-- R245, R247, R248, R249: at a boundary an acceptable external request is entered, whatever the timer's; a timer request is entered when
the external one is not acceptable. The counter is pushed, the vector loaded, the request flag and EMI cleared, and no other state of the
chip changes. The model's choices within it: the stack is one word and a full bit (decision D4, log 10); acceptance is tested at each
boundary (decision D16, log 8), and the order of two requests there is D29's (log 33); the first boundary after a warm reset is one of them,
ahead of the word at 000H (log 37); the window of an earlier TMR read is closed (log 20), and the cycles the entry takes, which the source
does not state, are a free value (log 24). -/
def Obligations.InterruptEntryAtTheBoundary : Prop :=
  ∀ (s : State) (rest : List Turn), s.coreNext rest → s.pins.res = true → s.halted = false → s.stackFull = false →
    s.intc.emi = true →
    (s.intc.eei = true → s.intc.eif = true →
      step s = .next { s with
        env := rest, stack := s.pc, stackFull := true, pc := 0x004#9,
        intc := { s.intc with eif := false, emi := false }, tmrRead := false,
        cycles := s.cycles + Config.interruptEntryCycles }) ∧
    (s.intc.eei = false ∨ s.intc.eif = false → s.intc.eti = true → s.intc.tf = true →
      step s = .next { s with
        env := rest, stack := s.pc, stackFull := true, pc := 0x008#9,
        intc := { s.intc with tf := false, emi := false }, tmrRead := false,
        cycles := s.cycles + Config.interruptEntryCycles })

/-- R245, R246: with the stack full, with EMI 0, or with no source both requested and enabled, no interrupt is entered: the instruction
runs. When acceptance is tested is decision D16 (log 8), and the fetch wraps past 1FFH (decision D33, log 26); the turn used up, the window
of a TMR read closed and the cycle counted are the model's own fields (logs 7, 20, 24). -/
def Obligations.HeldInterruptLetsTheInstructionRun : Prop :=
  ∀ (s : State) (rest : List Turn) (i : Instr), s.coreNext rest → s.pins.res = true → s.halted = false →
    decode (fetch s s.pc) = some i →
    (s.stackFull = true ∨ s.intc.emi = false ∨
      ((s.intc.eei = false ∨ s.intc.eif = false) ∧ (s.intc.eti = false ∨ s.intc.tf = false))) →
    step s = exec i { s with env := rest, pc := s.pc + 1, tmrRead := false, cycles := s.cycles + 1 }

/-- R221, R248, R257: RETI as the first instruction of an interrupt routine gives back the interrupted address and EMI, the stack empty as
it was and the request flag cleared; EVERY other register, flag and port is as it was when the interrupt was taken. Beside it the model's
own fields: the window of an earlier TMR read is closed (log 20) and the cycles are counted (log 24). EMI was 1 and the stack empty before,
since the interrupt was acceptable. Of two requests at the boundary the external one is taken (decision D29, log 33); the stack is one word
and a full bit (decision D4, log 10); acceptance is tested at each boundary (decision D16, log 8). -/
def Obligations.RetiUndoesTheInterruptEntry : Prop :=
  ∀ (s t u : State) (src : Source) (rest later : List Turn), s.coreNext rest → s.pins.res = true → s.halted = false →
    s.acceptable src = true → (src = .timer → s.acceptable .external = false) →
    step s = .next t → t.coreNext later → decode (fetch t t.pc) = some .reti → step t = .next u →
    s.intc.emi = true ∧ s.stackFull = false ∧
    u = { s with
      env := later, stack := s.pc,
      intc := { s.intc with eif := s.intc.eif && decide (src ≠ .external), tf := s.intc.tf && decide (src ≠ .timer) },
      tmrRead := false, cycles := s.cycles + Config.interruptEntryCycles + 2 }

/-! ### Rules of the whole machine -/

/-- R230: CLR WDT and HALT are the only instructions that change TO and PD, a write to STATUS included. -/
def Obligations.OnlyClrWdtAndHaltChangeToAndPd : Prop :=
  ∀ (i : Instr) (s t : State), exec i s = .next t → i ≠ .clrWdt → i ≠ .halt →
    t.status.tmo = s.status.tmo ∧ t.status.pd = s.status.pd

/-- R35: an instruction writes as a side effect no flag but those its row of the table ticks, where its destination is not STATUS itself.
That the AND forms tick no OV is the spec's resolution C1 of two tables that disagree (log 32). -/
def Obligations.FlagsFollowTheTable : Prop :=
  ∀ (i : Instr) (s t : State), exec i s = .next t →
    (∀ m, i.memOperand = some m → i.storesToMem = true → locate m s ≠ .status) →
    (i.flagRow.c = false → t.status.c = s.status.c) ∧ (i.flagRow.ac = false → t.status.ac = s.status.ac) ∧
    (i.flagRow.z = false → t.status.z = s.status.z) ∧ (i.flagRow.ov = false → t.status.ov = s.status.ov) ∧
    (i.flagRow.pdTo = false → t.status.pd = s.status.pd ∧ t.status.tmo = s.status.tmo)

/-- R44: no instruction reaches the stack but CALL and the returns; CALL leaves it full, a return leaves it empty. The stack as one word and
a full bit is decision D4 (log 10); a return with nothing pushed is refused (decision D5, log 11). -/
def Obligations.OnlyCallAndReturnsTouchTheStack : Prop :=
  ∀ (i : Instr) (s t : State), exec i s = .next t →
    ((∃ addr, i = .call addr) → t.stack = s.pc ∧ t.stackFull = true) ∧
    ((i = .ret ∨ i = .reti ∨ ∃ x, i = .retAx x) → t.stack = s.stack ∧ s.stackFull = true ∧ t.stackFull = false) ∧
    ((∀ addr, i ≠ .call addr) → i ≠ .ret → i ≠ .reti → (∀ x, i ≠ .retAx x) →
      t.stack = s.stack ∧ t.stackFull = s.stackFull)

/-- R41, R77: every byte of RAM reads as before but the byte an instruction stores to, and an instruction that does not store to memory
leaves all of RAM. The address stored to is the model's own `locate` of the operand in the state before. -/
def Obligations.EveryOtherRamByteIsUnchanged : Prop :=
  ∀ (i : Instr) (s t : State), Memory.wf s.ram = true → exec i s = .next t →
    (i.storesToMem = false → t.ram = s.ram) ∧
    (∀ m a, i.memOperand = some m → locate m s ≠ .ram a → Memory.read t.ram a = Memory.read s.ram a)

/-- R49, R90, R275: no instruction changes the program memory, the device, the pads, the schedule, the prescaler or the
free values drawn. -/
def Obligations.NoInstructionReachesTheEnvironment : Prop :=
  ∀ (i : Instr) (s t : State), exec i s = .next t →
    t.prom = s.prom ∧ t.cfg = s.cfg ∧ t.pins = s.pins ∧ t.env = s.env ∧ t.presc = s.presc ∧ t.draws = s.draws

/-- R22, R321 (the count of cycles is a field of the model's, log 24): every instruction takes one cycle and leaves the counter at the next
word, or takes two. The next word after 1FFH is 000H (decision D33, log 26). -/
def Obligations.OneCycleOrTwo : Prop :=
  ∀ (i : Instr) (s t : State),
    exec i { s with pc := s.pc + 1, tmrRead := false, cycles := s.cycles + 1 } = .next t →
    (t.cycles = s.cycles + 1 ∧ t.pc = s.pc + 1) ∨ t.cycles = s.cycles + 2

/-- R8, R71, R90: no step at all, whatever the schedule, changes the program memory or the device. -/
def Obligations.StepKeepsProgramAndDevice : Prop :=
  ∀ s t : State, step s = .next t → t.prom = s.prom ∧ t.cfg = s.cfg

/-- An invariant of the model that every step keeps (State.Inv): memory stays canonical, the window of a TMR read is open only with TON
set and not in halt, PD = 1 and TO = 0 in halt mode with the watchdog enabled, and the chip is in reset while RES is low (logs 2, 20,
25). -/
def Obligations.StepKeepsTheInvariant : Prop :=
  ∀ s t : State, s.Inv → step s = .next t → t.Inv

/-- The invariant holds at State.reset. -/
def Obligations.ResetMeetsTheInvariant : Prop := State.reset.Inv

/-! ### Reset -/

/-- R60 column (1) and R61, where they give a value: what State.reset holds. -/
def Obligations.ResetValues : Prop :=
  State.reset.pc = 0 ∧ State.reset.status.tmo = false ∧ State.reset.status.pd = false ∧
  State.reset.intc = { emi := false, eei := false, eti := false, eif := false, tf := false } ∧
  State.reset.tmrc = { te := true, ton := false, tm0 := false, tm1 := false } ∧
  State.reset.paLatch = 0xFF#8 ∧ State.reset.pac = 0xFF#8 ∧ State.reset.pbLatch = 3 ∧ State.reset.pbc = 3 ∧
  State.reset.pcLatch = 3 ∧ State.reset.pcc = 3 ∧ State.reset.stackFull = false ∧ State.reset.halted = false ∧
  State.reset.wdt3 = 0

/-- R60 column (1), R61, R301, R310: what a power-up event leaves, where the spec gives a value; what it calls unknown is left free (log 4).
Program memory, options and pads are not touched (log 9). -/
def Obligations.PowerUpInitialises : Prop :=
  ∀ (s t : State) (rest : List Turn), s.env = .event .powerUp :: rest → step s = .next t →
    t.pc = 0 ∧ t.status.tmo = false ∧ t.status.pd = false ∧ t.intc = Intc.reset ∧ t.tmrc = Tmrc.reset ∧
    t.paLatch = 0xFF#8 ∧ t.pac = 0xFF#8 ∧ t.pbLatch = 3 ∧ t.pbc = 3 ∧ t.pcLatch = 3 ∧ t.pcc = 3 ∧
    t.stackFull = false ∧ t.halted = false ∧ t.wdt3 = 0 ∧ Memory.wf t.ram = true ∧
    t.prom = s.prom ∧ t.cfg = s.cfg ∧ t.pins = s.pins ∧ t.env = rest

/-- R60 columns (3) and (4), R61, R303: RES going low, in normal operation and during halt (TO = 0 and PD = 1 there whatever they held, log
27). RAM is unchanged by decision D19 of the spec (R61); RES as a level is log 25, and the other pads are as the environment has them (log
9). -/
def Obligations.ResLowResets : Prop :=
  ∀ (s t : State) (rest : List Turn), s.pins.res = true → s.env = .event (.resPin false) :: rest → step s = .next t →
    t.InReset ∧ t.pins = { s.pins with res := false } ∧
    t.acc = s.acc ∧ t.mp = s.mp ∧ t.tmr = s.tmr ∧ t.ram = s.ram ∧ t.prom = s.prom ∧ t.cfg = s.cfg ∧ t.env = rest ∧
    t.status.c = s.status.c ∧ t.status.ac = s.status.ac ∧ t.status.z = s.status.z ∧ t.status.ov = s.status.ov ∧
    (s.halted = false → t.status.tmo = s.status.tmo ∧ t.status.pd = s.status.pd) ∧
    (s.halted = true → t.status.tmo = false ∧ t.status.pd = true)

/-- R60 column (2), R61, R260, R262, R263, R302: the eighth tick of the watchdog's tap outside halt is a chip reset with TO set: the
counter, INTC, TMRC and the ports at their initial condition, the stack empty and WDT3 0 (R302, R61), ACC, MP, TMR, PD and the four
arithmetic flags unchanged, and RAM unchanged, which is decision D19 of the spec. That it is the eighth tick is derived from R260 and
R263. -/
def Obligations.WatchdogTimeoutInNormalOperation : Prop :=
  ∀ s : State, s.halted = false → s.wdt3 = 7 →
    (wdtClock s).pc = 0 ∧ (wdtClock s).stackFull = false ∧ (wdtClock s).halted = false ∧ (wdtClock s).wdt3 = 0 ∧
    (wdtClock s).intc = Intc.reset ∧ (wdtClock s).tmrc = Tmrc.reset ∧
    (wdtClock s).paLatch = 0xFF#8 ∧ (wdtClock s).pac = 0xFF#8 ∧ (wdtClock s).pbLatch = 3 ∧ (wdtClock s).pbc = 3 ∧
    (wdtClock s).pcLatch = 3 ∧ (wdtClock s).pcc = 3 ∧
    (wdtClock s).status = { s.status with tmo := true } ∧ (wdtClock s).acc = s.acc ∧ (wdtClock s).mp = s.mp ∧
    (wdtClock s).tmr = s.tmr ∧ (wdtClock s).ram = s.ram

/-- R60 column (5), R61, R254, R264, R266, R305: the eighth tick of the tap during halt is the warm reset: the counter, the stack, the halt,
WDT3 and the prescaler (unknown, log 28) are reset, TO is set, the start-up delay is counted (log 24), and everything else keeps its value
(RAM by decision D19, the bits of STACK by choice, log 36, PD as HALT left it, log 31). So a tick of the RC oscillator that is the time-out
ends the halt so, whatever TON holds, where it is no clock of a counting timer. Where it is one too, the order is free (log 23): the timer
counts as well, or, if that overflow wakes the core first, the time-out finds it running and is the chip reset of R302; in an unused mode
the run is refused (decision D14, log 18). The mode codes are read as D13 has them (log 17), TMR wraps to 00H (D15, log 19), and the count
of PRESC that completes a division is a choice (log 22). -/
def Obligations.WatchdogTimeoutInHalt : Prop :=
  ∀ s : State, s.halted = true → s.wdt3 = 7 →
    (∃ p : BitVec 8, ∃ d : Nat,
      wdtClock s = { s with
        pc := 0, stackFull := false, halted := false, status := { s.status with tmo := true },
        wdt3 := 0, presc := p, draws := d, cycles := s.cycles + 256 }) ∧
    ∀ rest, s.pins.res = true → s.env = .event .rcClock :: rest → s.wdtTimesOut .rcClock = true →
      let warm (p : BitVec 8) (d : Nat) : State := { s with
        env := rest, pc := 0, stackFull := false, halted := false, status := { s.status with tmo := true },
        wdt3 := 0, presc := p, draws := d, cycles := s.cycles + 256 }
      (s.timerTicks .rcClock = false ∨ s.tmrc.ton = false ∨ (s.tmrc.tm1 = false ∧ s.tmrc.tm0 = true) →
        ∃ p d, step s = .next (warm p d)) ∧
      (s.timerTicks .rcClock = true → s.tmrc.ton = true → s.tmrc.tm1 = true → s.tmrc.tm0 = false → s.tmrRead = false →
        ∃ p d, step s = .next { warm p d with
            tmr := BitVec.ofNat 8 (s.tmr.toNat + 1),
            intc := { s.intc with tf := s.intc.tf || decide (s.tmr.toNat = 255) } } ∨
          (s.tmr.toNat = 255 ∧ s.intc.tf = false ∧ ∃ c, step s = .next { warm p d with
            tmr := 0, intc := Intc.reset, tmrc := Tmrc.reset, paLatch := 0xFF#8, pac := 0xFF#8, pbLatch := 3, pbc := 3,
            pcLatch := 3, pcc := 3, cycles := c })) ∧
      (s.timerTicks .rcClock = true → s.tmrc.ton = true → s.tmrc.tm1 = s.tmrc.tm0 → step s = .refused .timerModeUnused)

/-! ### The watchdog, the timer, the pads -/

/-- R260, R261, R263, R266: one tick of whichever clock feeds the prescaler (the RC oscillator with OP12 = 0, also in halt; the instruction
clock with OP12 = 1, outside halt), with the watchdog enabled, whether the timer is on or off (but not on in an unused mode with this clock
its own, D14, log 18). Counting the phase of the watchdog as WDT3 * 2^(n+5) plus the low n+5 bits of the prescaler, the phase goes up by one
until it would reach 2^(n+8), and that tick is the time-out. So from WDT3 = 0 the time-out comes after between 7 and 8 periods of the tap.
Such a count leaves the halt as it is unless the timer, on its tap, overflows. At which count of PRESC the tap ticks is a choice (log 22).
The time-out leaves PD, in halt too (log 31), and comes before or after a count on the same tick (log 23). -/
def Obligations.WatchdogPhaseCountsToTheTimeout : Prop :=
  ∀ (s : State) (e : Event) (rest : List Turn), s.pins.res = true → s.cfg.opt.wdtDisable = false →
    s.env = .event e :: rest →
    (s.cfg.opt.prescSrc = false ∧ e = .rcClock) ∨ (s.cfg.opt.prescSrc = true ∧ s.halted = false ∧ e = .instrClock) →
    (s.tmrc.ton = false ∨ s.tmrc.tm1 ≠ s.tmrc.tm0 ∨ (s.cfg.opt.tmrSrc = false ∧ e = .rcClock)) →
    let tap := 2 ^ (s.cfg.opt.wdtDiv.toNat + 5)
    let phase (u : State) : Nat := u.wdt3.toNat * tap + u.presc.toNat % tap
    (phase s + 1 < 8 * tap →
      ∃ t, step s = .next t ∧ phase t = phase s + 1 ∧ t.pc = s.pc ∧ t.status = s.status ∧
        ((s.tmrc.ton = false ∨ s.cfg.opt.tmrSrc = false) → t.halted = s.halted)) ∧
    (phase s + 1 = 8 * tap →
      ∃ t, step s = .next t ∧ t.pc = 0 ∧ t.wdt3 = 0 ∧ t.halted = false ∧ t.stackFull = false ∧
        t.status = { s.status with tmo := true })

/-- R265: with the watchdog disabled by option no time-out ever occurs, in normal operation or in halt: no tick of either clock moves
WDT3, changes STATUS or restarts the program, and no step at all sets TO; CLR WDT and the watchdog part of HALT do nothing to WDT3. What
they do to TO and PD the rule leaves to R234 (WatchdogInstructionsResult). -/
def Obligations.DisabledWatchdogNeverTimesOut : Prop :=
  (∀ (s t : State) (rest : List Turn), s.cfg.opt.wdtDisable = true →
    (s.env = .event .rcClock :: rest ∨ s.env = .event .instrClock :: rest) → step s = .next t →
    t.wdt3 = s.wdt3 ∧ t.status = s.status ∧ t.pc = s.pc) ∧
  (∀ s t : State, s.cfg.opt.wdtDisable = true → step s = .next t → t.status.tmo = true → s.status.tmo = true) ∧
  (∀ s t : State, s.cfg.opt.wdtDisable = true → (exec .clrWdt s = .next t ∨ exec .halt s = .next t) → t.wdt3 = s.wdt3)

/-- R260, R267, R269, R270, R272: a tick of either clock while the core runs. It moves the prescaler where OP12 feeds it by that clock, and
the watchdog where that completes its division (State.afterTick). It is a clock of the timer if OP19 = 0 and it is the instruction clock, or
if OP19 = 1 and it completes the prescaler's division by 2^(n+1) (State.timerTicks). In timer mode with TON = 1 and no read of TMR under way
(log 20) such a clock counts, modulo 256 (decision D15, log 19), and sets TF at the overflow and only then; with TON = 0 or in event count
mode it does not count; in an unused mode with TON = 1 the run is refused (D14, log 18). Where the tick is also the watchdog's time-out,
that is a chip reset, and the timer may see its clock before it or not (log 23). The mode codes are read as D13 has them (log 17); clocks
come as events between instructions, and the count of PRESC at which a division completes is a choice (D22, log 22); whether the RC
oscillator runs with the watchdog disabled is D32 (log 21). -/
def Obligations.TimerCountsItsSelectedClock : Prop :=
  ∀ (s : State) (e : Event) (rest : List Turn), s.pins.res = true → s.halted = false →
    s.env = .event e :: rest → (e = .instrClock ∨ e = .rcClock) →
    (s.wdtTimesOut e = false →
      (s.timerTicks e = true → s.tmrc.ton = true → s.tmrc.tm1 = true → s.tmrc.tm0 = false → s.tmrRead = false →
        step s = .next { s.afterTick e rest with
          tmr := BitVec.ofNat 8 (s.tmr.toNat + 1),
          intc := { s.intc with tf := s.intc.tf || decide (s.tmr.toNat = 255) } }) ∧
      (s.timerTicks e = false ∨ s.tmrc.ton = false ∨ (s.tmrc.tm1 = false ∧ s.tmrc.tm0 = true) →
        step s = .next (s.afterTick e rest)) ∧
      (s.timerTicks e = true → s.tmrc.ton = true → s.tmrc.tm1 = s.tmrc.tm0 → step s = .refused .timerModeUnused)) ∧
    (s.wdtTimesOut e = true →
      (s.timerTicks e = true ∧ s.tmrc.ton = true ∧ s.tmrc.tm1 = s.tmrc.tm0 ∧ step s = .refused .timerModeUnused) ∨
      ∃ t, step s = .next t ∧ t.pc = 0 ∧ t.wdt3 = 0 ∧ t.intc = Intc.reset ∧ t.tmrc = Tmrc.reset ∧
        t.status = { s.status with tmo := true } ∧
        (t.tmr = s.tmr ∨ (s.timerTicks e = true ∧ s.tmrc.ton = true ∧ s.tmrc.tm1 = true ∧ s.tmrc.tm0 = false ∧
          t.tmr = BitVec.ofNat 8 (s.tmr.toNat + 1))))

/-- R270, R271, decision D31 of the spec (log 20): a clock of the timer that comes in the window of a read of TMR counts once or not at
all, and the window is then closed. First of the count itself; then of the step, running or halted, for a tick of either clock in timer
mode that is no time-out, and for the edge TE chooses on the pad in event count mode: TF is set if it counts from FFH and only then, a
flag that so goes from 0 to 1 ends a halt (R253), and nothing else changes but what the tick or the edge does without the timer (one free
value is drawn, and a wake-up has its delay, log 24). Modes, wrap and clocks are D13's, D15's and D22's (logs 17, 19, 22). -/
def Obligations.ReadOfTmrLosesAtMostOneCount : Prop :=
  (∀ s : State, (s.count.tmr = s.tmr ∧ s.overflows = false ∨ s.count.tmr.toNat = (s.tmr.toNat + 1) % 256) ∧
    s.count.tmrRead = false ∧ (s.tmrRead = false → s.count.tmr.toNat = (s.tmr.toNat + 1) % 256)) ∧
  ∀ (s : State) (rest : List Turn), s.pins.res = true → s.tmrRead = true → s.tmrc.ton = true →
    let onceAtMost (u : State) : Prop := ∃ t, step s = .next t ∧
      ((t.tmr = s.tmr ∧ t.intc.tf = s.intc.tf) ∨
        (t.tmr = BitVec.ofNat 8 (s.tmr.toNat + 1) ∧ t.intc.tf = (s.intc.tf || decide (s.tmr.toNat = 255)))) ∧
      t = { u with
        tmr := t.tmr, intc := { u.intc with tf := t.intc.tf }, tmrRead := false, draws := s.draws + 1,
        halted := s.halted && !((u.intc.eif && !s.intc.eif) || (t.intc.tf && !s.intc.tf)), cycles := t.cycles } ∧
      (s.halted = false → t.cycles = s.cycles)
    (∀ e, s.env = .event e :: rest → (e = .instrClock ∨ e = .rcClock) → s.tmrc.tm1 = true → s.tmrc.tm0 = false →
      s.timerTicks e = true → s.wdtTimesOut e = false → onceAtMost (s.afterTick e rest)) ∧
    (∀ level : Bool, s.env = .event (.intPad level) :: rest → s.pins.int = !level → s.tmrc.te = !level →
      s.tmrc.tm1 = false → s.tmrc.tm0 = true → onceAtMost { s with
        env := rest, pins := { s.pins with int := level }, intc := { s.intc with eif := s.intc.eif || !level } })

/-- R242, R268, R270, R273: a level change on the pad of INT and TMR while running. A falling edge sets EIF whatever the enables hold; in
event count mode with TON = 1 the edge TE chooses also counts (with no read of TMR under way, log 20), and the other does not; in an unused
mode with TON = 1 the edge TE chooses is refused (D14, log 18). Mode codes and the wrap are D13's and D15's (logs 17, 19). The pad's level
is held as a field (log 9). -/
def Obligations.PadEdgeRequestsAndCounts : Prop :=
  ∀ (s : State) (level : Bool) (rest : List Turn), s.pins.res = true → s.halted = false →
    s.pins.int = !level → s.env = .event (.intPad level) :: rest →
    let counts := s.tmrc.ton && (s.tmrc.te == !level)
    let seen : State := { s with
      env := rest, pins := { s.pins with int := level },
      intc := { s.intc with eif := s.intc.eif || !level } }
    (counts = false ∨ (s.tmrc.tm1 = true ∧ s.tmrc.tm0 = false) → step s = .next seen) ∧
    (counts = true → s.tmrc.tm1 = false → s.tmrc.tm0 = true → s.tmrRead = false →
      step s = .next { seen with
        tmr := BitVec.ofNat 8 (s.tmr.toNat + 1),
        intc := { s.intc with eif := s.intc.eif || !level, tf := s.intc.tf || decide (s.tmr.toNat = 255) } }) ∧
    (counts = true → s.tmrc.tm1 = s.tmrc.tm0 → step s = .refused .timerModeUnused)

/-- R253, R266, R272: the two requests during halt. A change of the INT/TMR pad requests as R242 has it and counts as R268 and R270 have
it. A tick of the RC oscillator moves the prescaler it feeds and the watchdog (State.afterTick); it is a clock of the timer only with OP19
= 1, where it completes the division (State.timerTicks), so that timer mode on the instruction clock is frozen, whatever TON holds, while
the watchdog counts on. The core wakes exactly when EIF goes from 0 to 1 by a falling edge, or TF goes from 0 to 1 by an overflow (to 00H,
D15, log 19), whatever the enables hold, with the counter where HALT left it; a request whose flag is 1 already does not wake it. The
delay is counted, with one cycle more where the wake-up leads to an interrupt (log 24). In an unused mode with TON = 1 a clock or the edge
TE chooses is refused (D13, D14, logs 17, 18). A tick of the instruction clock in halt is HaltedCoreWaits's, a time-out
WatchdogTimeoutInHalt's, a clock in the window of a read of TMR ReadOfTmrLosesAtMostOneCount's; the count of PRESC that completes a
division is a choice (log 22), and so is the RC oscillator with the watchdog disabled (D32, log 21). -/
def Obligations.RequestWakesOnlyWhenItRises : Prop :=
  ∀ (s : State) (rest : List Turn), s.pins.res = true → s.halted = true →
    let ends (u : State) (rises : Bool) : Prop :=
      step s = .next (if rises then { u with
        halted := false,
        cycles := s.cycles + 256 + (if u.acceptable .external || u.acceptable .timer then 1 else 0) } else u)
    (∀ level : Bool, s.env = .event (.intPad level) :: rest → s.pins.int = !level →
      let counts := s.tmrc.ton && (s.tmrc.te == !level)
      let seen : State := { s with
        env := rest, pins := { s.pins with int := level },
        intc := { s.intc with eif := s.intc.eif || !level } }
      (counts = false ∨ (s.tmrc.tm1 = true ∧ s.tmrc.tm0 = false) → ends seen (!level && !s.intc.eif)) ∧
      (counts = true → s.tmrc.tm1 = false → s.tmrc.tm0 = true → s.tmrRead = false →
        ends { seen with
          tmr := BitVec.ofNat 8 (s.tmr.toNat + 1),
          intc := { s.intc with eif := s.intc.eif || !level, tf := s.intc.tf || decide (s.tmr.toNat = 255) } }
          ((!level && !s.intc.eif) || (decide (s.tmr.toNat = 255) && !s.intc.tf))) ∧
      (counts = true → s.tmrc.tm1 = s.tmrc.tm0 → step s = .refused .timerModeUnused)) ∧
    (s.env = .event .rcClock :: rest → s.wdtTimesOut .rcClock = false →
      (s.timerTicks .rcClock = true → s.tmrc.ton = true → s.tmrc.tm1 = true → s.tmrc.tm0 = false → s.tmrRead = false →
        ends { s.afterTick .rcClock rest with
          tmr := BitVec.ofNat 8 (s.tmr.toNat + 1),
          intc := { s.intc with tf := s.intc.tf || decide (s.tmr.toNat = 255) } }
          (decide (s.tmr.toNat = 255) && !s.intc.tf)) ∧
      (s.timerTicks .rcClock = false ∨ s.tmrc.ton = false ∨ (s.tmrc.tm1 = false ∧ s.tmrc.tm0 = true) →
        step s = .next (s.afterTick .rcClock rest)) ∧
      (s.timerTicks .rcClock = true → s.tmrc.ton = true → s.tmrc.tm1 = s.tmrc.tm0 → step s = .refused .timerModeUnused))

/-- R252: new levels on port A during halt. A fall of a pad whose wake-up option is 1 ends the halt, with every register and the counter as
HALT left them; with no such fall the halt goes on. The other wake-ups of R251 are other statements'. What the pads are at is the model's
choice (D26, log 9), and the start-up delay is counted (log 24). -/
def Obligations.PortAFallWakes : Prop :=
  ∀ (s : State) (drv lvl : BitVec 8) (rest : List Turn), s.pins.res = true → s.halted = true →
    s.env = .event (.portA drv lvl) :: rest →
    let seen : State := { s with env := rest, pins := { s.pins with drvA := drv, lvlA := lvl } }
    ((∃ j < 8, s.cfg.opt.wake.getLsbD j = true ∧ s.padA.getLsbD j = true ∧ seen.padA.getLsbD j = false) →
      step s = .next { seen with halted := false, cycles := s.cycles + 256 }) ∧
    ((∀ j < 8, s.cfg.opt.wake.getLsbD j = false ∨ s.padA.getLsbD j = false ∨ seen.padA.getLsbD j = true) →
      step s = .next seen)

/-- R275, R276: what the outside sees on the pins of each port: the latch bit of an output; of an input, high impedance, pulled high by
option. -/
def Obligations.PinsShowLatchOrHighImpedance : Prop :=
  ∀ s : State,
    (∀ j : Fin 8, (s.pac.getLsbD j = false → s.viewA j = .drives (s.paLatch.getLsbD j)) ∧
      (s.pac.getLsbD j = true → s.viewA j = if s.cfg.opt.pullA.getLsbD j then .pulledHigh else .highImpedance)) ∧
    (∀ j : Fin 2, (s.pbc.getLsbD j = false → s.viewB j = .drives (s.pbLatch.getLsbD j)) ∧
      (s.pbc.getLsbD j = true → s.viewB j = if s.cfg.opt.pullB.getLsbD j then .pulledHigh else .highImpedance)) ∧
    (∀ j : Fin 2, (s.pcc.getLsbD j = false → s.viewC j = .drives (s.pcLatch.getLsbD j)) ∧
      (s.pcc.getLsbD j = true → s.viewC j = if s.cfg.opt.pullC.getLsbD j then .pulledHigh else .highImpedance))

/-- R248, R250, R60, R61: an event other than a power-up leaves ACC, MP, RAM, STACK, C, AC, Z and OV as they are. For RAM in every reset
that is R61's (decision D19); for STACK in RES, in a watchdog reset and in the warm reset it is the model's choice (R61 has "unchanged or
unknown", D20; log 36). -/
def Obligations.EventsLeaveTheWorkingRegisters : Prop :=
  ∀ (s t : State) (e : Event) (rest : List Turn), e ≠ .powerUp → s.env = .event e :: rest → step s = .next t →
    t.acc = s.acc ∧ t.mp = s.mp ∧ t.ram = s.ram ∧ t.stack = s.stack ∧ t.status.c = s.status.c ∧
    t.status.ac = s.status.ac ∧ t.status.z = s.status.z ∧ t.status.ov = s.status.ov
end

