-- ==== Sys2Proof/Laws/Memory.lean ====
section
/-! SUPPORT. The laws of memory: what a read answers after a write, that every operation keeps the canonical form, and that canonical
memories that read alike are equal. -/

namespace Sys2Proof.Machine

/-! ### Lookup after insert and erase -/

theorem Memory.lookup_insert_same {α : Type} (a : Nat) (v : α) (m : List (Nat × α)) :
    Memory.lookup a (Memory.insert a v m) = some v := by
  induction m with
  | nil => simp [Memory.insert, Memory.lookup]
  | cons p t ih =>
    obtain ⟨b, w⟩ := p
    by_cases h1 : a < b
    · simp [Memory.insert, Memory.lookup, h1]
    · by_cases h2 : a = b
      · simp [Memory.insert, Memory.lookup, h2]
      · simp [Memory.insert, Memory.lookup, h1, h2, ih]

theorem Memory.lookup_insert_other {α : Type} {a b : Nat} (h : b ≠ a) (v : α) (m : List (Nat × α)) :
    Memory.lookup b (Memory.insert a v m) = Memory.lookup b m := by
  induction m with
  | nil => simp [Memory.insert, Memory.lookup, h]
  | cons p t ih =>
    obtain ⟨c, w⟩ := p
    by_cases h1 : a < c
    · simp [Memory.insert, Memory.lookup, h1, h]
    · by_cases h2 : a = c
      · subst h2
        simp [Memory.insert, Memory.lookup, h]
      · simp [Memory.insert, Memory.lookup, h1, h2, ih]

theorem Memory.lookup_below {α : Type} {a : Nat} {m : List (Nat × α)}
    (h : m.all (fun p => decide (a < p.1)) = true) : Memory.lookup a m = none := by
  induction m with
  | nil => rfl
  | cons p t ih =>
    obtain ⟨b, w⟩ := p
    simp only [List.all_cons, Bool.and_eq_true, decide_eq_true_eq] at h
    have : a ≠ b := by omega
    simp [Memory.lookup, this, ih h.2]

theorem Memory.lookup_erase_same {α : Type} (a : Nat) {m : List (Nat × α)} (h : Memory.rising m = true) :
    Memory.lookup a (Memory.erase a m) = none := by
  induction m with
  | nil => rfl
  | cons p t ih =>
    obtain ⟨b, w⟩ := p
    simp only [Memory.rising, Bool.and_eq_true] at h
    by_cases h2 : a = b
    · subst h2
      simpa [Memory.erase] using Memory.lookup_below h.1
    · simp [Memory.erase, Memory.lookup, h2, ih h.2]

theorem Memory.lookup_erase_other {α : Type} {a b : Nat} (h : b ≠ a) (m : List (Nat × α)) :
    Memory.lookup b (Memory.erase a m) = Memory.lookup b m := by
  induction m with
  | nil => rfl
  | cons p t ih =>
    obtain ⟨c, w⟩ := p
    by_cases h2 : a = c
    · subst h2
      simp [Memory.erase, Memory.lookup, h]
    · simp [Memory.erase, Memory.lookup, h2, ih]

/-! ### Read after write -/

theorem Memory.read_write_same {m : List Host.Cell} (h : Memory.rising m = true) (a : Nat) (v : Byte) :
    Memory.read (Memory.write m a v) a = v := by
  unfold Memory.read Memory.write
  split
  · next hv => rw [Memory.lookup_erase_same a h, hv]; rfl
  · rw [Memory.lookup_insert_same]; rfl

theorem Memory.read_write_other {a b : Nat} (h : b ≠ a) (m : List Host.Cell) (v : Byte) :
    Memory.read (Memory.write m a v) b = Memory.read m b := by
  unfold Memory.read Memory.write
  split
  · rw [Memory.lookup_erase_other h]
  · rw [Memory.lookup_insert_other h]

/-! ### The canonical form is kept -/

theorem Memory.all_insert {α : Type} {q : Nat × α → Bool} {a : Nat} {v : α} (hq : q (a, v) = true)
    {m : List (Nat × α)} (h : m.all q = true) : (Memory.insert a v m).all q = true := by
  induction m with
  | nil => simp [Memory.insert, hq]
  | cons p t ih =>
    obtain ⟨b, w⟩ := p
    simp only [List.all_cons, Bool.and_eq_true] at h
    by_cases h1 : a < b
    · simp only [Memory.insert, h1, if_true, List.all_cons, hq, h.1, h.2, Bool.and_self]
    · by_cases h2 : a = b
      · subst h2
        simp only [Memory.insert, Nat.lt_irrefl, if_false, if_true, List.all_cons, hq, h.2, Bool.and_self]
      · simp only [Memory.insert, h1, h2, if_false, List.all_cons, h.1, ih h.2, Bool.and_self]

theorem Memory.all_erase {α : Type} {q : Nat × α → Bool} (a : Nat) {m : List (Nat × α)}
    (h : m.all q = true) : (Memory.erase a m).all q = true := by
  induction m with
  | nil => rfl
  | cons p t ih =>
    obtain ⟨b, w⟩ := p
    simp only [List.all_cons, Bool.and_eq_true] at h
    by_cases h2 : a = b
    · simp [Memory.erase, h2, h.2]
    · simp only [Memory.erase, h2, if_false, List.all_cons, h.1, ih h.2, Bool.and_self]

theorem Memory.rising_insert {α : Type} (a : Nat) (v : α) {m : List (Nat × α)}
    (h : Memory.rising m = true) : Memory.rising (Memory.insert a v m) = true := by
  induction m with
  | nil => rfl
  | cons p t ih =>
    obtain ⟨b, w⟩ := p
    have h' := h
    simp only [Memory.rising, Bool.and_eq_true] at h
    by_cases h1 : a < b
    · simp only [Memory.insert, h1, if_true]
      rw [Memory.rising, Bool.and_eq_true]
      refine ⟨?_, h'⟩
      simp only [List.all_cons, Bool.and_eq_true, decide_eq_true_eq, List.all_eq_true]
      refine ⟨h1, fun p hp => ?_⟩
      have := List.all_eq_true.mp h.1 p hp
      simp only [decide_eq_true_eq] at this
      omega
    · by_cases h2 : a = b
      · subst h2
        simpa only [Memory.insert, Nat.lt_irrefl, if_false, if_true, Memory.rising, Bool.and_eq_true] using h
      · simp only [Memory.insert, h1, h2, if_false, Memory.rising, Bool.and_eq_true]
        exact ⟨Memory.all_insert (by simp only [decide_eq_true_eq]; omega) h.1, ih h.2⟩

theorem Memory.rising_erase {α : Type} (a : Nat) {m : List (Nat × α)} (h : Memory.rising m = true) :
    Memory.rising (Memory.erase a m) = true := by
  induction m with
  | nil => rfl
  | cons p t ih =>
    obtain ⟨b, w⟩ := p
    simp only [Memory.rising, Bool.and_eq_true] at h
    by_cases h2 : a = b
    · simp [Memory.erase, h2, h.2]
    · simp only [Memory.erase, h2, if_false, Memory.rising, Bool.and_eq_true]
      exact ⟨Memory.all_erase a h.1, ih h.2⟩

theorem Memory.wf_rising {m : List Host.Cell} (h : Memory.wf m = true) : Memory.rising m = true :=
  (Bool.and_eq_true_iff.mp h).1

/-- A write inside RAM keeps the canonical form. -/
theorem Memory.wf_write {m : List Host.Cell} (h : Memory.wf m = true) {a : Nat}
    (ha : Memory.isRam a = true) (v : Byte) : Memory.wf (Memory.write m a v) = true := by
  unfold Memory.wf at *
  rw [Bool.and_eq_true] at *
  unfold Memory.write
  split
  · exact ⟨Memory.rising_erase a h.1, Memory.all_erase a h.2⟩
  · next hv => exact ⟨Memory.rising_insert a v h.1, Memory.all_insert (by simp [ha, hv]) h.2⟩

/-- Filling RAM gives a canonical memory. -/
theorem Memory.wf_fill (f : Nat → Byte) : Memory.wf (Memory.fill f) = true := by
  unfold Memory.fill
  have key : ∀ (l : List Nat), (∀ k ∈ l, k < 32) → ∀ m : List Host.Cell, Memory.wf m = true →
      Memory.wf (l.foldl (fun m k => Memory.write m (0x20 + k) (f (0x20 + k))) m) = true := by
    intro l
    induction l with
    | nil => intro _ m h; exact h
    | cons k t ih =>
      intro hl m h
      refine ih (fun j hj => hl j (List.mem_cons_of_mem _ hj)) _ (Memory.wf_write h ?_ _)
      have := hl k List.mem_cons_self
      simp only [Memory.isRam, Bool.and_eq_true, decide_eq_true_eq]
      omega
  exact key _ (fun k hk => List.mem_range.mp hk) [] rfl

/-- Programming a word keeps the canonical form of program memory. -/
theorem Memory.promWf_insert {m : List (Nat × CodeWord)} (h : Memory.promWf m = true) (a : ProgAddr)
    (w : CodeWord) : Memory.promWf (Memory.insert a.toNat w m) = true := by
  unfold Memory.promWf at *
  rw [Bool.and_eq_true] at *
  refine ⟨Memory.rising_insert _ w h.1, Memory.all_insert ?_ h.2⟩
  simp only [addrFits, decide_eq_true_eq]
  exact a.isLt

/-! ### Canonical memories that read alike are equal -/

theorem Memory.lookup_eq_some_of_mem {α : Type} {m : List (Nat × α)} (h : Memory.rising m = true)
    {p : Nat × α} (hp : p ∈ m) : Memory.lookup p.1 m = some p.2 := by
  induction m with
  | nil => cases hp
  | cons q t ih =>
    obtain ⟨b, w⟩ := q
    simp only [Memory.rising, Bool.and_eq_true] at h
    rcases List.mem_cons.mp hp with rfl | hp'
    · simp [Memory.lookup]
    · have := List.all_eq_true.mp h.1 p hp'
      simp only [decide_eq_true_eq] at this
      have hne : p.1 ≠ b := by omega
      simp [Memory.lookup, hne, ih h.2 hp']

/-- A rising list is determined by what it lists. -/
theorem Memory.eq_of_lookup_eq {α : Type} {m n : List (Nat × α)} (hm : Memory.rising m = true)
    (hn : Memory.rising n = true) (h : ∀ a, Memory.lookup a m = Memory.lookup a n) : m = n := by
  induction m generalizing n with
  | nil =>
    cases n with
    | nil => rfl
    | cons q t => simpa [Memory.lookup] using h q.1
  | cons p t ih =>
    obtain ⟨a, v⟩ := p
    cases n with
    | nil => simpa [Memory.lookup] using h a
    | cons q u =>
      obtain ⟨b, w⟩ := q
      simp only [Memory.rising, Bool.and_eq_true] at hm hn
      have hab : a = b := by
        by_contra hne
        rcases Nat.lt_or_gt_of_ne hne with hlt | hgt
        · have h1 := h a
          have h2 : Memory.lookup a u = none := Memory.lookup_below (by
            refine List.all_eq_true.mpr fun p hp => ?_
            have := List.all_eq_true.mp hn.1 p hp
            simp only [decide_eq_true_eq] at *
            omega)
          simp [Memory.lookup, hne, h2] at h1
        · have h1 := h b
          have h2 : Memory.lookup b t = none := Memory.lookup_below (by
            refine List.all_eq_true.mpr fun p hp => ?_
            have := List.all_eq_true.mp hm.1 p hp
            simp only [decide_eq_true_eq] at *
            omega)
          have hne' : b ≠ a := fun e => hne e.symm
          simp [Memory.lookup, hne', h2] at h1
      subst hab
      have hv : v = w := by simpa [Memory.lookup] using h a
      subst hv
      congr 1
      refine ih hm.2 hn.2 fun c => ?_
      by_cases hc : c = a
      · subst hc
        rw [Memory.lookup_below hm.1, Memory.lookup_below hn.1]
      · simpa [Memory.lookup, hc] using h c

end Sys2Proof.Machine
end

