-- ==== Sys2Proof/Laws/State.lean ====
section
/-! SUPPORT. One lemma per field per setter of State: what the update writes, and that it leaves every other field alone. -/

namespace Sys2Proof.Machine

/-! ### setPc -/

section
variable (s : State) (v : ProgAddr)

@[simp] theorem State.setPc_pc : (s.setPc v).pc = v := rfl
@[simp] theorem State.setPc_acc : (s.setPc v).acc = s.acc := rfl
@[simp] theorem State.setPc_mp : (s.setPc v).mp = s.mp := rfl
@[simp] theorem State.setPc_status : (s.setPc v).status = s.status := rfl
@[simp] theorem State.setPc_intc : (s.setPc v).intc = s.intc := rfl
@[simp] theorem State.setPc_tmr : (s.setPc v).tmr = s.tmr := rfl
@[simp] theorem State.setPc_tmrc : (s.setPc v).tmrc = s.tmrc := rfl
@[simp] theorem State.setPc_paLatch : (s.setPc v).paLatch = s.paLatch := rfl
@[simp] theorem State.setPc_pac : (s.setPc v).pac = s.pac := rfl
@[simp] theorem State.setPc_pbLatch : (s.setPc v).pbLatch = s.pbLatch := rfl
@[simp] theorem State.setPc_pbc : (s.setPc v).pbc = s.pbc := rfl
@[simp] theorem State.setPc_pcLatch : (s.setPc v).pcLatch = s.pcLatch := rfl
@[simp] theorem State.setPc_pcc : (s.setPc v).pcc = s.pcc := rfl
@[simp] theorem State.setPc_ram : (s.setPc v).ram = s.ram := rfl
@[simp] theorem State.setPc_stack : (s.setPc v).stack = s.stack := rfl
@[simp] theorem State.setPc_stackFull : (s.setPc v).stackFull = s.stackFull := rfl
@[simp] theorem State.setPc_halted : (s.setPc v).halted = s.halted := rfl
@[simp] theorem State.setPc_wdt3 : (s.setPc v).wdt3 = s.wdt3 := rfl
@[simp] theorem State.setPc_presc : (s.setPc v).presc = s.presc := rfl
@[simp] theorem State.setPc_tmrRead : (s.setPc v).tmrRead = s.tmrRead := rfl
@[simp] theorem State.setPc_pins : (s.setPc v).pins = s.pins := rfl
@[simp] theorem State.setPc_prom : (s.setPc v).prom = s.prom := rfl
@[simp] theorem State.setPc_cfg : (s.setPc v).cfg = s.cfg := rfl
@[simp] theorem State.setPc_env : (s.setPc v).env = s.env := rfl
@[simp] theorem State.setPc_cycles : (s.setPc v).cycles = s.cycles := rfl
@[simp] theorem State.setPc_draws : (s.setPc v).draws = s.draws := rfl

end

/-! ### setAcc -/

section
variable (s : State) (v : Byte)

@[simp] theorem State.setAcc_pc : (s.setAcc v).pc = s.pc := rfl
@[simp] theorem State.setAcc_acc : (s.setAcc v).acc = v := rfl
@[simp] theorem State.setAcc_mp : (s.setAcc v).mp = s.mp := rfl
@[simp] theorem State.setAcc_status : (s.setAcc v).status = s.status := rfl
@[simp] theorem State.setAcc_intc : (s.setAcc v).intc = s.intc := rfl
@[simp] theorem State.setAcc_tmr : (s.setAcc v).tmr = s.tmr := rfl
@[simp] theorem State.setAcc_tmrc : (s.setAcc v).tmrc = s.tmrc := rfl
@[simp] theorem State.setAcc_paLatch : (s.setAcc v).paLatch = s.paLatch := rfl
@[simp] theorem State.setAcc_pac : (s.setAcc v).pac = s.pac := rfl
@[simp] theorem State.setAcc_pbLatch : (s.setAcc v).pbLatch = s.pbLatch := rfl
@[simp] theorem State.setAcc_pbc : (s.setAcc v).pbc = s.pbc := rfl
@[simp] theorem State.setAcc_pcLatch : (s.setAcc v).pcLatch = s.pcLatch := rfl
@[simp] theorem State.setAcc_pcc : (s.setAcc v).pcc = s.pcc := rfl
@[simp] theorem State.setAcc_ram : (s.setAcc v).ram = s.ram := rfl
@[simp] theorem State.setAcc_stack : (s.setAcc v).stack = s.stack := rfl
@[simp] theorem State.setAcc_stackFull : (s.setAcc v).stackFull = s.stackFull := rfl
@[simp] theorem State.setAcc_halted : (s.setAcc v).halted = s.halted := rfl
@[simp] theorem State.setAcc_wdt3 : (s.setAcc v).wdt3 = s.wdt3 := rfl
@[simp] theorem State.setAcc_presc : (s.setAcc v).presc = s.presc := rfl
@[simp] theorem State.setAcc_tmrRead : (s.setAcc v).tmrRead = s.tmrRead := rfl
@[simp] theorem State.setAcc_pins : (s.setAcc v).pins = s.pins := rfl
@[simp] theorem State.setAcc_prom : (s.setAcc v).prom = s.prom := rfl
@[simp] theorem State.setAcc_cfg : (s.setAcc v).cfg = s.cfg := rfl
@[simp] theorem State.setAcc_env : (s.setAcc v).env = s.env := rfl
@[simp] theorem State.setAcc_cycles : (s.setAcc v).cycles = s.cycles := rfl
@[simp] theorem State.setAcc_draws : (s.setAcc v).draws = s.draws := rfl

end

/-! ### setMp -/

section
variable (s : State) (v : BitVec 7)

@[simp] theorem State.setMp_pc : (s.setMp v).pc = s.pc := rfl
@[simp] theorem State.setMp_acc : (s.setMp v).acc = s.acc := rfl
@[simp] theorem State.setMp_mp : (s.setMp v).mp = v := rfl
@[simp] theorem State.setMp_status : (s.setMp v).status = s.status := rfl
@[simp] theorem State.setMp_intc : (s.setMp v).intc = s.intc := rfl
@[simp] theorem State.setMp_tmr : (s.setMp v).tmr = s.tmr := rfl
@[simp] theorem State.setMp_tmrc : (s.setMp v).tmrc = s.tmrc := rfl
@[simp] theorem State.setMp_paLatch : (s.setMp v).paLatch = s.paLatch := rfl
@[simp] theorem State.setMp_pac : (s.setMp v).pac = s.pac := rfl
@[simp] theorem State.setMp_pbLatch : (s.setMp v).pbLatch = s.pbLatch := rfl
@[simp] theorem State.setMp_pbc : (s.setMp v).pbc = s.pbc := rfl
@[simp] theorem State.setMp_pcLatch : (s.setMp v).pcLatch = s.pcLatch := rfl
@[simp] theorem State.setMp_pcc : (s.setMp v).pcc = s.pcc := rfl
@[simp] theorem State.setMp_ram : (s.setMp v).ram = s.ram := rfl
@[simp] theorem State.setMp_stack : (s.setMp v).stack = s.stack := rfl
@[simp] theorem State.setMp_stackFull : (s.setMp v).stackFull = s.stackFull := rfl
@[simp] theorem State.setMp_halted : (s.setMp v).halted = s.halted := rfl
@[simp] theorem State.setMp_wdt3 : (s.setMp v).wdt3 = s.wdt3 := rfl
@[simp] theorem State.setMp_presc : (s.setMp v).presc = s.presc := rfl
@[simp] theorem State.setMp_tmrRead : (s.setMp v).tmrRead = s.tmrRead := rfl
@[simp] theorem State.setMp_pins : (s.setMp v).pins = s.pins := rfl
@[simp] theorem State.setMp_prom : (s.setMp v).prom = s.prom := rfl
@[simp] theorem State.setMp_cfg : (s.setMp v).cfg = s.cfg := rfl
@[simp] theorem State.setMp_env : (s.setMp v).env = s.env := rfl
@[simp] theorem State.setMp_cycles : (s.setMp v).cycles = s.cycles := rfl
@[simp] theorem State.setMp_draws : (s.setMp v).draws = s.draws := rfl

end

/-! ### setStatus -/

section
variable (s : State) (v : Status)

@[simp] theorem State.setStatus_pc : (s.setStatus v).pc = s.pc := rfl
@[simp] theorem State.setStatus_acc : (s.setStatus v).acc = s.acc := rfl
@[simp] theorem State.setStatus_mp : (s.setStatus v).mp = s.mp := rfl
@[simp] theorem State.setStatus_status : (s.setStatus v).status = v := rfl
@[simp] theorem State.setStatus_intc : (s.setStatus v).intc = s.intc := rfl
@[simp] theorem State.setStatus_tmr : (s.setStatus v).tmr = s.tmr := rfl
@[simp] theorem State.setStatus_tmrc : (s.setStatus v).tmrc = s.tmrc := rfl
@[simp] theorem State.setStatus_paLatch : (s.setStatus v).paLatch = s.paLatch := rfl
@[simp] theorem State.setStatus_pac : (s.setStatus v).pac = s.pac := rfl
@[simp] theorem State.setStatus_pbLatch : (s.setStatus v).pbLatch = s.pbLatch := rfl
@[simp] theorem State.setStatus_pbc : (s.setStatus v).pbc = s.pbc := rfl
@[simp] theorem State.setStatus_pcLatch : (s.setStatus v).pcLatch = s.pcLatch := rfl
@[simp] theorem State.setStatus_pcc : (s.setStatus v).pcc = s.pcc := rfl
@[simp] theorem State.setStatus_ram : (s.setStatus v).ram = s.ram := rfl
@[simp] theorem State.setStatus_stack : (s.setStatus v).stack = s.stack := rfl
@[simp] theorem State.setStatus_stackFull : (s.setStatus v).stackFull = s.stackFull := rfl
@[simp] theorem State.setStatus_halted : (s.setStatus v).halted = s.halted := rfl
@[simp] theorem State.setStatus_wdt3 : (s.setStatus v).wdt3 = s.wdt3 := rfl
@[simp] theorem State.setStatus_presc : (s.setStatus v).presc = s.presc := rfl
@[simp] theorem State.setStatus_tmrRead : (s.setStatus v).tmrRead = s.tmrRead := rfl
@[simp] theorem State.setStatus_pins : (s.setStatus v).pins = s.pins := rfl
@[simp] theorem State.setStatus_prom : (s.setStatus v).prom = s.prom := rfl
@[simp] theorem State.setStatus_cfg : (s.setStatus v).cfg = s.cfg := rfl
@[simp] theorem State.setStatus_env : (s.setStatus v).env = s.env := rfl
@[simp] theorem State.setStatus_cycles : (s.setStatus v).cycles = s.cycles := rfl
@[simp] theorem State.setStatus_draws : (s.setStatus v).draws = s.draws := rfl

end

/-! ### setIntc -/

section
variable (s : State) (v : Intc)

@[simp] theorem State.setIntc_pc : (s.setIntc v).pc = s.pc := rfl
@[simp] theorem State.setIntc_acc : (s.setIntc v).acc = s.acc := rfl
@[simp] theorem State.setIntc_mp : (s.setIntc v).mp = s.mp := rfl
@[simp] theorem State.setIntc_status : (s.setIntc v).status = s.status := rfl
@[simp] theorem State.setIntc_intc : (s.setIntc v).intc = v := rfl
@[simp] theorem State.setIntc_tmr : (s.setIntc v).tmr = s.tmr := rfl
@[simp] theorem State.setIntc_tmrc : (s.setIntc v).tmrc = s.tmrc := rfl
@[simp] theorem State.setIntc_paLatch : (s.setIntc v).paLatch = s.paLatch := rfl
@[simp] theorem State.setIntc_pac : (s.setIntc v).pac = s.pac := rfl
@[simp] theorem State.setIntc_pbLatch : (s.setIntc v).pbLatch = s.pbLatch := rfl
@[simp] theorem State.setIntc_pbc : (s.setIntc v).pbc = s.pbc := rfl
@[simp] theorem State.setIntc_pcLatch : (s.setIntc v).pcLatch = s.pcLatch := rfl
@[simp] theorem State.setIntc_pcc : (s.setIntc v).pcc = s.pcc := rfl
@[simp] theorem State.setIntc_ram : (s.setIntc v).ram = s.ram := rfl
@[simp] theorem State.setIntc_stack : (s.setIntc v).stack = s.stack := rfl
@[simp] theorem State.setIntc_stackFull : (s.setIntc v).stackFull = s.stackFull := rfl
@[simp] theorem State.setIntc_halted : (s.setIntc v).halted = s.halted := rfl
@[simp] theorem State.setIntc_wdt3 : (s.setIntc v).wdt3 = s.wdt3 := rfl
@[simp] theorem State.setIntc_presc : (s.setIntc v).presc = s.presc := rfl
@[simp] theorem State.setIntc_tmrRead : (s.setIntc v).tmrRead = s.tmrRead := rfl
@[simp] theorem State.setIntc_pins : (s.setIntc v).pins = s.pins := rfl
@[simp] theorem State.setIntc_prom : (s.setIntc v).prom = s.prom := rfl
@[simp] theorem State.setIntc_cfg : (s.setIntc v).cfg = s.cfg := rfl
@[simp] theorem State.setIntc_env : (s.setIntc v).env = s.env := rfl
@[simp] theorem State.setIntc_cycles : (s.setIntc v).cycles = s.cycles := rfl
@[simp] theorem State.setIntc_draws : (s.setIntc v).draws = s.draws := rfl

end

/-! ### setTmr -/

section
variable (s : State) (v : Byte)

@[simp] theorem State.setTmr_pc : (s.setTmr v).pc = s.pc := rfl
@[simp] theorem State.setTmr_acc : (s.setTmr v).acc = s.acc := rfl
@[simp] theorem State.setTmr_mp : (s.setTmr v).mp = s.mp := rfl
@[simp] theorem State.setTmr_status : (s.setTmr v).status = s.status := rfl
@[simp] theorem State.setTmr_intc : (s.setTmr v).intc = s.intc := rfl
@[simp] theorem State.setTmr_tmr : (s.setTmr v).tmr = v := rfl
@[simp] theorem State.setTmr_tmrc : (s.setTmr v).tmrc = s.tmrc := rfl
@[simp] theorem State.setTmr_paLatch : (s.setTmr v).paLatch = s.paLatch := rfl
@[simp] theorem State.setTmr_pac : (s.setTmr v).pac = s.pac := rfl
@[simp] theorem State.setTmr_pbLatch : (s.setTmr v).pbLatch = s.pbLatch := rfl
@[simp] theorem State.setTmr_pbc : (s.setTmr v).pbc = s.pbc := rfl
@[simp] theorem State.setTmr_pcLatch : (s.setTmr v).pcLatch = s.pcLatch := rfl
@[simp] theorem State.setTmr_pcc : (s.setTmr v).pcc = s.pcc := rfl
@[simp] theorem State.setTmr_ram : (s.setTmr v).ram = s.ram := rfl
@[simp] theorem State.setTmr_stack : (s.setTmr v).stack = s.stack := rfl
@[simp] theorem State.setTmr_stackFull : (s.setTmr v).stackFull = s.stackFull := rfl
@[simp] theorem State.setTmr_halted : (s.setTmr v).halted = s.halted := rfl
@[simp] theorem State.setTmr_wdt3 : (s.setTmr v).wdt3 = s.wdt3 := rfl
@[simp] theorem State.setTmr_presc : (s.setTmr v).presc = s.presc := rfl
@[simp] theorem State.setTmr_tmrRead : (s.setTmr v).tmrRead = s.tmrRead := rfl
@[simp] theorem State.setTmr_pins : (s.setTmr v).pins = s.pins := rfl
@[simp] theorem State.setTmr_prom : (s.setTmr v).prom = s.prom := rfl
@[simp] theorem State.setTmr_cfg : (s.setTmr v).cfg = s.cfg := rfl
@[simp] theorem State.setTmr_env : (s.setTmr v).env = s.env := rfl
@[simp] theorem State.setTmr_cycles : (s.setTmr v).cycles = s.cycles := rfl
@[simp] theorem State.setTmr_draws : (s.setTmr v).draws = s.draws := rfl

end

/-! ### setTmrc -/

section
variable (s : State) (v : Tmrc)

@[simp] theorem State.setTmrc_pc : (s.setTmrc v).pc = s.pc := rfl
@[simp] theorem State.setTmrc_acc : (s.setTmrc v).acc = s.acc := rfl
@[simp] theorem State.setTmrc_mp : (s.setTmrc v).mp = s.mp := rfl
@[simp] theorem State.setTmrc_status : (s.setTmrc v).status = s.status := rfl
@[simp] theorem State.setTmrc_intc : (s.setTmrc v).intc = s.intc := rfl
@[simp] theorem State.setTmrc_tmr : (s.setTmrc v).tmr = s.tmr := rfl
@[simp] theorem State.setTmrc_tmrc : (s.setTmrc v).tmrc = v := rfl
@[simp] theorem State.setTmrc_paLatch : (s.setTmrc v).paLatch = s.paLatch := rfl
@[simp] theorem State.setTmrc_pac : (s.setTmrc v).pac = s.pac := rfl
@[simp] theorem State.setTmrc_pbLatch : (s.setTmrc v).pbLatch = s.pbLatch := rfl
@[simp] theorem State.setTmrc_pbc : (s.setTmrc v).pbc = s.pbc := rfl
@[simp] theorem State.setTmrc_pcLatch : (s.setTmrc v).pcLatch = s.pcLatch := rfl
@[simp] theorem State.setTmrc_pcc : (s.setTmrc v).pcc = s.pcc := rfl
@[simp] theorem State.setTmrc_ram : (s.setTmrc v).ram = s.ram := rfl
@[simp] theorem State.setTmrc_stack : (s.setTmrc v).stack = s.stack := rfl
@[simp] theorem State.setTmrc_stackFull : (s.setTmrc v).stackFull = s.stackFull := rfl
@[simp] theorem State.setTmrc_halted : (s.setTmrc v).halted = s.halted := rfl
@[simp] theorem State.setTmrc_wdt3 : (s.setTmrc v).wdt3 = s.wdt3 := rfl
@[simp] theorem State.setTmrc_presc : (s.setTmrc v).presc = s.presc := rfl
@[simp] theorem State.setTmrc_tmrRead : (s.setTmrc v).tmrRead = s.tmrRead := rfl
@[simp] theorem State.setTmrc_pins : (s.setTmrc v).pins = s.pins := rfl
@[simp] theorem State.setTmrc_prom : (s.setTmrc v).prom = s.prom := rfl
@[simp] theorem State.setTmrc_cfg : (s.setTmrc v).cfg = s.cfg := rfl
@[simp] theorem State.setTmrc_env : (s.setTmrc v).env = s.env := rfl
@[simp] theorem State.setTmrc_cycles : (s.setTmrc v).cycles = s.cycles := rfl
@[simp] theorem State.setTmrc_draws : (s.setTmrc v).draws = s.draws := rfl

end

/-! ### setPaLatch -/

section
variable (s : State) (v : Byte)

@[simp] theorem State.setPaLatch_pc : (s.setPaLatch v).pc = s.pc := rfl
@[simp] theorem State.setPaLatch_acc : (s.setPaLatch v).acc = s.acc := rfl
@[simp] theorem State.setPaLatch_mp : (s.setPaLatch v).mp = s.mp := rfl
@[simp] theorem State.setPaLatch_status : (s.setPaLatch v).status = s.status := rfl
@[simp] theorem State.setPaLatch_intc : (s.setPaLatch v).intc = s.intc := rfl
@[simp] theorem State.setPaLatch_tmr : (s.setPaLatch v).tmr = s.tmr := rfl
@[simp] theorem State.setPaLatch_tmrc : (s.setPaLatch v).tmrc = s.tmrc := rfl
@[simp] theorem State.setPaLatch_paLatch : (s.setPaLatch v).paLatch = v := rfl
@[simp] theorem State.setPaLatch_pac : (s.setPaLatch v).pac = s.pac := rfl
@[simp] theorem State.setPaLatch_pbLatch : (s.setPaLatch v).pbLatch = s.pbLatch := rfl
@[simp] theorem State.setPaLatch_pbc : (s.setPaLatch v).pbc = s.pbc := rfl
@[simp] theorem State.setPaLatch_pcLatch : (s.setPaLatch v).pcLatch = s.pcLatch := rfl
@[simp] theorem State.setPaLatch_pcc : (s.setPaLatch v).pcc = s.pcc := rfl
@[simp] theorem State.setPaLatch_ram : (s.setPaLatch v).ram = s.ram := rfl
@[simp] theorem State.setPaLatch_stack : (s.setPaLatch v).stack = s.stack := rfl
@[simp] theorem State.setPaLatch_stackFull : (s.setPaLatch v).stackFull = s.stackFull := rfl
@[simp] theorem State.setPaLatch_halted : (s.setPaLatch v).halted = s.halted := rfl
@[simp] theorem State.setPaLatch_wdt3 : (s.setPaLatch v).wdt3 = s.wdt3 := rfl
@[simp] theorem State.setPaLatch_presc : (s.setPaLatch v).presc = s.presc := rfl
@[simp] theorem State.setPaLatch_tmrRead : (s.setPaLatch v).tmrRead = s.tmrRead := rfl
@[simp] theorem State.setPaLatch_pins : (s.setPaLatch v).pins = s.pins := rfl
@[simp] theorem State.setPaLatch_prom : (s.setPaLatch v).prom = s.prom := rfl
@[simp] theorem State.setPaLatch_cfg : (s.setPaLatch v).cfg = s.cfg := rfl
@[simp] theorem State.setPaLatch_env : (s.setPaLatch v).env = s.env := rfl
@[simp] theorem State.setPaLatch_cycles : (s.setPaLatch v).cycles = s.cycles := rfl
@[simp] theorem State.setPaLatch_draws : (s.setPaLatch v).draws = s.draws := rfl

end

/-! ### setPac -/

section
variable (s : State) (v : Byte)

@[simp] theorem State.setPac_pc : (s.setPac v).pc = s.pc := rfl
@[simp] theorem State.setPac_acc : (s.setPac v).acc = s.acc := rfl
@[simp] theorem State.setPac_mp : (s.setPac v).mp = s.mp := rfl
@[simp] theorem State.setPac_status : (s.setPac v).status = s.status := rfl
@[simp] theorem State.setPac_intc : (s.setPac v).intc = s.intc := rfl
@[simp] theorem State.setPac_tmr : (s.setPac v).tmr = s.tmr := rfl
@[simp] theorem State.setPac_tmrc : (s.setPac v).tmrc = s.tmrc := rfl
@[simp] theorem State.setPac_paLatch : (s.setPac v).paLatch = s.paLatch := rfl
@[simp] theorem State.setPac_pac : (s.setPac v).pac = v := rfl
@[simp] theorem State.setPac_pbLatch : (s.setPac v).pbLatch = s.pbLatch := rfl
@[simp] theorem State.setPac_pbc : (s.setPac v).pbc = s.pbc := rfl
@[simp] theorem State.setPac_pcLatch : (s.setPac v).pcLatch = s.pcLatch := rfl
@[simp] theorem State.setPac_pcc : (s.setPac v).pcc = s.pcc := rfl
@[simp] theorem State.setPac_ram : (s.setPac v).ram = s.ram := rfl
@[simp] theorem State.setPac_stack : (s.setPac v).stack = s.stack := rfl
@[simp] theorem State.setPac_stackFull : (s.setPac v).stackFull = s.stackFull := rfl
@[simp] theorem State.setPac_halted : (s.setPac v).halted = s.halted := rfl
@[simp] theorem State.setPac_wdt3 : (s.setPac v).wdt3 = s.wdt3 := rfl
@[simp] theorem State.setPac_presc : (s.setPac v).presc = s.presc := rfl
@[simp] theorem State.setPac_tmrRead : (s.setPac v).tmrRead = s.tmrRead := rfl
@[simp] theorem State.setPac_pins : (s.setPac v).pins = s.pins := rfl
@[simp] theorem State.setPac_prom : (s.setPac v).prom = s.prom := rfl
@[simp] theorem State.setPac_cfg : (s.setPac v).cfg = s.cfg := rfl
@[simp] theorem State.setPac_env : (s.setPac v).env = s.env := rfl
@[simp] theorem State.setPac_cycles : (s.setPac v).cycles = s.cycles := rfl
@[simp] theorem State.setPac_draws : (s.setPac v).draws = s.draws := rfl

end

/-! ### setPbLatch -/

section
variable (s : State) (v : BitVec 2)

@[simp] theorem State.setPbLatch_pc : (s.setPbLatch v).pc = s.pc := rfl
@[simp] theorem State.setPbLatch_acc : (s.setPbLatch v).acc = s.acc := rfl
@[simp] theorem State.setPbLatch_mp : (s.setPbLatch v).mp = s.mp := rfl
@[simp] theorem State.setPbLatch_status : (s.setPbLatch v).status = s.status := rfl
@[simp] theorem State.setPbLatch_intc : (s.setPbLatch v).intc = s.intc := rfl
@[simp] theorem State.setPbLatch_tmr : (s.setPbLatch v).tmr = s.tmr := rfl
@[simp] theorem State.setPbLatch_tmrc : (s.setPbLatch v).tmrc = s.tmrc := rfl
@[simp] theorem State.setPbLatch_paLatch : (s.setPbLatch v).paLatch = s.paLatch := rfl
@[simp] theorem State.setPbLatch_pac : (s.setPbLatch v).pac = s.pac := rfl
@[simp] theorem State.setPbLatch_pbLatch : (s.setPbLatch v).pbLatch = v := rfl
@[simp] theorem State.setPbLatch_pbc : (s.setPbLatch v).pbc = s.pbc := rfl
@[simp] theorem State.setPbLatch_pcLatch : (s.setPbLatch v).pcLatch = s.pcLatch := rfl
@[simp] theorem State.setPbLatch_pcc : (s.setPbLatch v).pcc = s.pcc := rfl
@[simp] theorem State.setPbLatch_ram : (s.setPbLatch v).ram = s.ram := rfl
@[simp] theorem State.setPbLatch_stack : (s.setPbLatch v).stack = s.stack := rfl
@[simp] theorem State.setPbLatch_stackFull : (s.setPbLatch v).stackFull = s.stackFull := rfl
@[simp] theorem State.setPbLatch_halted : (s.setPbLatch v).halted = s.halted := rfl
@[simp] theorem State.setPbLatch_wdt3 : (s.setPbLatch v).wdt3 = s.wdt3 := rfl
@[simp] theorem State.setPbLatch_presc : (s.setPbLatch v).presc = s.presc := rfl
@[simp] theorem State.setPbLatch_tmrRead : (s.setPbLatch v).tmrRead = s.tmrRead := rfl
@[simp] theorem State.setPbLatch_pins : (s.setPbLatch v).pins = s.pins := rfl
@[simp] theorem State.setPbLatch_prom : (s.setPbLatch v).prom = s.prom := rfl
@[simp] theorem State.setPbLatch_cfg : (s.setPbLatch v).cfg = s.cfg := rfl
@[simp] theorem State.setPbLatch_env : (s.setPbLatch v).env = s.env := rfl
@[simp] theorem State.setPbLatch_cycles : (s.setPbLatch v).cycles = s.cycles := rfl
@[simp] theorem State.setPbLatch_draws : (s.setPbLatch v).draws = s.draws := rfl

end

/-! ### setPbc -/

section
variable (s : State) (v : BitVec 2)

@[simp] theorem State.setPbc_pc : (s.setPbc v).pc = s.pc := rfl
@[simp] theorem State.setPbc_acc : (s.setPbc v).acc = s.acc := rfl
@[simp] theorem State.setPbc_mp : (s.setPbc v).mp = s.mp := rfl
@[simp] theorem State.setPbc_status : (s.setPbc v).status = s.status := rfl
@[simp] theorem State.setPbc_intc : (s.setPbc v).intc = s.intc := rfl
@[simp] theorem State.setPbc_tmr : (s.setPbc v).tmr = s.tmr := rfl
@[simp] theorem State.setPbc_tmrc : (s.setPbc v).tmrc = s.tmrc := rfl
@[simp] theorem State.setPbc_paLatch : (s.setPbc v).paLatch = s.paLatch := rfl
@[simp] theorem State.setPbc_pac : (s.setPbc v).pac = s.pac := rfl
@[simp] theorem State.setPbc_pbLatch : (s.setPbc v).pbLatch = s.pbLatch := rfl
@[simp] theorem State.setPbc_pbc : (s.setPbc v).pbc = v := rfl
@[simp] theorem State.setPbc_pcLatch : (s.setPbc v).pcLatch = s.pcLatch := rfl
@[simp] theorem State.setPbc_pcc : (s.setPbc v).pcc = s.pcc := rfl
@[simp] theorem State.setPbc_ram : (s.setPbc v).ram = s.ram := rfl
@[simp] theorem State.setPbc_stack : (s.setPbc v).stack = s.stack := rfl
@[simp] theorem State.setPbc_stackFull : (s.setPbc v).stackFull = s.stackFull := rfl
@[simp] theorem State.setPbc_halted : (s.setPbc v).halted = s.halted := rfl
@[simp] theorem State.setPbc_wdt3 : (s.setPbc v).wdt3 = s.wdt3 := rfl
@[simp] theorem State.setPbc_presc : (s.setPbc v).presc = s.presc := rfl
@[simp] theorem State.setPbc_tmrRead : (s.setPbc v).tmrRead = s.tmrRead := rfl
@[simp] theorem State.setPbc_pins : (s.setPbc v).pins = s.pins := rfl
@[simp] theorem State.setPbc_prom : (s.setPbc v).prom = s.prom := rfl
@[simp] theorem State.setPbc_cfg : (s.setPbc v).cfg = s.cfg := rfl
@[simp] theorem State.setPbc_env : (s.setPbc v).env = s.env := rfl
@[simp] theorem State.setPbc_cycles : (s.setPbc v).cycles = s.cycles := rfl
@[simp] theorem State.setPbc_draws : (s.setPbc v).draws = s.draws := rfl

end

/-! ### setPcLatch -/

section
variable (s : State) (v : BitVec 2)

@[simp] theorem State.setPcLatch_pc : (s.setPcLatch v).pc = s.pc := rfl
@[simp] theorem State.setPcLatch_acc : (s.setPcLatch v).acc = s.acc := rfl
@[simp] theorem State.setPcLatch_mp : (s.setPcLatch v).mp = s.mp := rfl
@[simp] theorem State.setPcLatch_status : (s.setPcLatch v).status = s.status := rfl
@[simp] theorem State.setPcLatch_intc : (s.setPcLatch v).intc = s.intc := rfl
@[simp] theorem State.setPcLatch_tmr : (s.setPcLatch v).tmr = s.tmr := rfl
@[simp] theorem State.setPcLatch_tmrc : (s.setPcLatch v).tmrc = s.tmrc := rfl
@[simp] theorem State.setPcLatch_paLatch : (s.setPcLatch v).paLatch = s.paLatch := rfl
@[simp] theorem State.setPcLatch_pac : (s.setPcLatch v).pac = s.pac := rfl
@[simp] theorem State.setPcLatch_pbLatch : (s.setPcLatch v).pbLatch = s.pbLatch := rfl
@[simp] theorem State.setPcLatch_pbc : (s.setPcLatch v).pbc = s.pbc := rfl
@[simp] theorem State.setPcLatch_pcLatch : (s.setPcLatch v).pcLatch = v := rfl
@[simp] theorem State.setPcLatch_pcc : (s.setPcLatch v).pcc = s.pcc := rfl
@[simp] theorem State.setPcLatch_ram : (s.setPcLatch v).ram = s.ram := rfl
@[simp] theorem State.setPcLatch_stack : (s.setPcLatch v).stack = s.stack := rfl
@[simp] theorem State.setPcLatch_stackFull : (s.setPcLatch v).stackFull = s.stackFull := rfl
@[simp] theorem State.setPcLatch_halted : (s.setPcLatch v).halted = s.halted := rfl
@[simp] theorem State.setPcLatch_wdt3 : (s.setPcLatch v).wdt3 = s.wdt3 := rfl
@[simp] theorem State.setPcLatch_presc : (s.setPcLatch v).presc = s.presc := rfl
@[simp] theorem State.setPcLatch_tmrRead : (s.setPcLatch v).tmrRead = s.tmrRead := rfl
@[simp] theorem State.setPcLatch_pins : (s.setPcLatch v).pins = s.pins := rfl
@[simp] theorem State.setPcLatch_prom : (s.setPcLatch v).prom = s.prom := rfl
@[simp] theorem State.setPcLatch_cfg : (s.setPcLatch v).cfg = s.cfg := rfl
@[simp] theorem State.setPcLatch_env : (s.setPcLatch v).env = s.env := rfl
@[simp] theorem State.setPcLatch_cycles : (s.setPcLatch v).cycles = s.cycles := rfl
@[simp] theorem State.setPcLatch_draws : (s.setPcLatch v).draws = s.draws := rfl

end

/-! ### setPcc -/

section
variable (s : State) (v : BitVec 2)

@[simp] theorem State.setPcc_pc : (s.setPcc v).pc = s.pc := rfl
@[simp] theorem State.setPcc_acc : (s.setPcc v).acc = s.acc := rfl
@[simp] theorem State.setPcc_mp : (s.setPcc v).mp = s.mp := rfl
@[simp] theorem State.setPcc_status : (s.setPcc v).status = s.status := rfl
@[simp] theorem State.setPcc_intc : (s.setPcc v).intc = s.intc := rfl
@[simp] theorem State.setPcc_tmr : (s.setPcc v).tmr = s.tmr := rfl
@[simp] theorem State.setPcc_tmrc : (s.setPcc v).tmrc = s.tmrc := rfl
@[simp] theorem State.setPcc_paLatch : (s.setPcc v).paLatch = s.paLatch := rfl
@[simp] theorem State.setPcc_pac : (s.setPcc v).pac = s.pac := rfl
@[simp] theorem State.setPcc_pbLatch : (s.setPcc v).pbLatch = s.pbLatch := rfl
@[simp] theorem State.setPcc_pbc : (s.setPcc v).pbc = s.pbc := rfl
@[simp] theorem State.setPcc_pcLatch : (s.setPcc v).pcLatch = s.pcLatch := rfl
@[simp] theorem State.setPcc_pcc : (s.setPcc v).pcc = v := rfl
@[simp] theorem State.setPcc_ram : (s.setPcc v).ram = s.ram := rfl
@[simp] theorem State.setPcc_stack : (s.setPcc v).stack = s.stack := rfl
@[simp] theorem State.setPcc_stackFull : (s.setPcc v).stackFull = s.stackFull := rfl
@[simp] theorem State.setPcc_halted : (s.setPcc v).halted = s.halted := rfl
@[simp] theorem State.setPcc_wdt3 : (s.setPcc v).wdt3 = s.wdt3 := rfl
@[simp] theorem State.setPcc_presc : (s.setPcc v).presc = s.presc := rfl
@[simp] theorem State.setPcc_tmrRead : (s.setPcc v).tmrRead = s.tmrRead := rfl
@[simp] theorem State.setPcc_pins : (s.setPcc v).pins = s.pins := rfl
@[simp] theorem State.setPcc_prom : (s.setPcc v).prom = s.prom := rfl
@[simp] theorem State.setPcc_cfg : (s.setPcc v).cfg = s.cfg := rfl
@[simp] theorem State.setPcc_env : (s.setPcc v).env = s.env := rfl
@[simp] theorem State.setPcc_cycles : (s.setPcc v).cycles = s.cycles := rfl
@[simp] theorem State.setPcc_draws : (s.setPcc v).draws = s.draws := rfl

end

/-! ### setRam -/

section
variable (s : State) (v : List Host.Cell)

@[simp] theorem State.setRam_pc : (s.setRam v).pc = s.pc := rfl
@[simp] theorem State.setRam_acc : (s.setRam v).acc = s.acc := rfl
@[simp] theorem State.setRam_mp : (s.setRam v).mp = s.mp := rfl
@[simp] theorem State.setRam_status : (s.setRam v).status = s.status := rfl
@[simp] theorem State.setRam_intc : (s.setRam v).intc = s.intc := rfl
@[simp] theorem State.setRam_tmr : (s.setRam v).tmr = s.tmr := rfl
@[simp] theorem State.setRam_tmrc : (s.setRam v).tmrc = s.tmrc := rfl
@[simp] theorem State.setRam_paLatch : (s.setRam v).paLatch = s.paLatch := rfl
@[simp] theorem State.setRam_pac : (s.setRam v).pac = s.pac := rfl
@[simp] theorem State.setRam_pbLatch : (s.setRam v).pbLatch = s.pbLatch := rfl
@[simp] theorem State.setRam_pbc : (s.setRam v).pbc = s.pbc := rfl
@[simp] theorem State.setRam_pcLatch : (s.setRam v).pcLatch = s.pcLatch := rfl
@[simp] theorem State.setRam_pcc : (s.setRam v).pcc = s.pcc := rfl
@[simp] theorem State.setRam_ram : (s.setRam v).ram = v := rfl
@[simp] theorem State.setRam_stack : (s.setRam v).stack = s.stack := rfl
@[simp] theorem State.setRam_stackFull : (s.setRam v).stackFull = s.stackFull := rfl
@[simp] theorem State.setRam_halted : (s.setRam v).halted = s.halted := rfl
@[simp] theorem State.setRam_wdt3 : (s.setRam v).wdt3 = s.wdt3 := rfl
@[simp] theorem State.setRam_presc : (s.setRam v).presc = s.presc := rfl
@[simp] theorem State.setRam_tmrRead : (s.setRam v).tmrRead = s.tmrRead := rfl
@[simp] theorem State.setRam_pins : (s.setRam v).pins = s.pins := rfl
@[simp] theorem State.setRam_prom : (s.setRam v).prom = s.prom := rfl
@[simp] theorem State.setRam_cfg : (s.setRam v).cfg = s.cfg := rfl
@[simp] theorem State.setRam_env : (s.setRam v).env = s.env := rfl
@[simp] theorem State.setRam_cycles : (s.setRam v).cycles = s.cycles := rfl
@[simp] theorem State.setRam_draws : (s.setRam v).draws = s.draws := rfl

end

/-! ### setStack -/

section
variable (s : State) (v : ProgAddr)

@[simp] theorem State.setStack_pc : (s.setStack v).pc = s.pc := rfl
@[simp] theorem State.setStack_acc : (s.setStack v).acc = s.acc := rfl
@[simp] theorem State.setStack_mp : (s.setStack v).mp = s.mp := rfl
@[simp] theorem State.setStack_status : (s.setStack v).status = s.status := rfl
@[simp] theorem State.setStack_intc : (s.setStack v).intc = s.intc := rfl
@[simp] theorem State.setStack_tmr : (s.setStack v).tmr = s.tmr := rfl
@[simp] theorem State.setStack_tmrc : (s.setStack v).tmrc = s.tmrc := rfl
@[simp] theorem State.setStack_paLatch : (s.setStack v).paLatch = s.paLatch := rfl
@[simp] theorem State.setStack_pac : (s.setStack v).pac = s.pac := rfl
@[simp] theorem State.setStack_pbLatch : (s.setStack v).pbLatch = s.pbLatch := rfl
@[simp] theorem State.setStack_pbc : (s.setStack v).pbc = s.pbc := rfl
@[simp] theorem State.setStack_pcLatch : (s.setStack v).pcLatch = s.pcLatch := rfl
@[simp] theorem State.setStack_pcc : (s.setStack v).pcc = s.pcc := rfl
@[simp] theorem State.setStack_ram : (s.setStack v).ram = s.ram := rfl
@[simp] theorem State.setStack_stack : (s.setStack v).stack = v := rfl
@[simp] theorem State.setStack_stackFull : (s.setStack v).stackFull = s.stackFull := rfl
@[simp] theorem State.setStack_halted : (s.setStack v).halted = s.halted := rfl
@[simp] theorem State.setStack_wdt3 : (s.setStack v).wdt3 = s.wdt3 := rfl
@[simp] theorem State.setStack_presc : (s.setStack v).presc = s.presc := rfl
@[simp] theorem State.setStack_tmrRead : (s.setStack v).tmrRead = s.tmrRead := rfl
@[simp] theorem State.setStack_pins : (s.setStack v).pins = s.pins := rfl
@[simp] theorem State.setStack_prom : (s.setStack v).prom = s.prom := rfl
@[simp] theorem State.setStack_cfg : (s.setStack v).cfg = s.cfg := rfl
@[simp] theorem State.setStack_env : (s.setStack v).env = s.env := rfl
@[simp] theorem State.setStack_cycles : (s.setStack v).cycles = s.cycles := rfl
@[simp] theorem State.setStack_draws : (s.setStack v).draws = s.draws := rfl

end

/-! ### setStackFull -/

section
variable (s : State) (v : Bool)

@[simp] theorem State.setStackFull_pc : (s.setStackFull v).pc = s.pc := rfl
@[simp] theorem State.setStackFull_acc : (s.setStackFull v).acc = s.acc := rfl
@[simp] theorem State.setStackFull_mp : (s.setStackFull v).mp = s.mp := rfl
@[simp] theorem State.setStackFull_status : (s.setStackFull v).status = s.status := rfl
@[simp] theorem State.setStackFull_intc : (s.setStackFull v).intc = s.intc := rfl
@[simp] theorem State.setStackFull_tmr : (s.setStackFull v).tmr = s.tmr := rfl
@[simp] theorem State.setStackFull_tmrc : (s.setStackFull v).tmrc = s.tmrc := rfl
@[simp] theorem State.setStackFull_paLatch : (s.setStackFull v).paLatch = s.paLatch := rfl
@[simp] theorem State.setStackFull_pac : (s.setStackFull v).pac = s.pac := rfl
@[simp] theorem State.setStackFull_pbLatch : (s.setStackFull v).pbLatch = s.pbLatch := rfl
@[simp] theorem State.setStackFull_pbc : (s.setStackFull v).pbc = s.pbc := rfl
@[simp] theorem State.setStackFull_pcLatch : (s.setStackFull v).pcLatch = s.pcLatch := rfl
@[simp] theorem State.setStackFull_pcc : (s.setStackFull v).pcc = s.pcc := rfl
@[simp] theorem State.setStackFull_ram : (s.setStackFull v).ram = s.ram := rfl
@[simp] theorem State.setStackFull_stack : (s.setStackFull v).stack = s.stack := rfl
@[simp] theorem State.setStackFull_stackFull : (s.setStackFull v).stackFull = v := rfl
@[simp] theorem State.setStackFull_halted : (s.setStackFull v).halted = s.halted := rfl
@[simp] theorem State.setStackFull_wdt3 : (s.setStackFull v).wdt3 = s.wdt3 := rfl
@[simp] theorem State.setStackFull_presc : (s.setStackFull v).presc = s.presc := rfl
@[simp] theorem State.setStackFull_tmrRead : (s.setStackFull v).tmrRead = s.tmrRead := rfl
@[simp] theorem State.setStackFull_pins : (s.setStackFull v).pins = s.pins := rfl
@[simp] theorem State.setStackFull_prom : (s.setStackFull v).prom = s.prom := rfl
@[simp] theorem State.setStackFull_cfg : (s.setStackFull v).cfg = s.cfg := rfl
@[simp] theorem State.setStackFull_env : (s.setStackFull v).env = s.env := rfl
@[simp] theorem State.setStackFull_cycles : (s.setStackFull v).cycles = s.cycles := rfl
@[simp] theorem State.setStackFull_draws : (s.setStackFull v).draws = s.draws := rfl

end

/-! ### setHalted -/

section
variable (s : State) (v : Bool)

@[simp] theorem State.setHalted_pc : (s.setHalted v).pc = s.pc := rfl
@[simp] theorem State.setHalted_acc : (s.setHalted v).acc = s.acc := rfl
@[simp] theorem State.setHalted_mp : (s.setHalted v).mp = s.mp := rfl
@[simp] theorem State.setHalted_status : (s.setHalted v).status = s.status := rfl
@[simp] theorem State.setHalted_intc : (s.setHalted v).intc = s.intc := rfl
@[simp] theorem State.setHalted_tmr : (s.setHalted v).tmr = s.tmr := rfl
@[simp] theorem State.setHalted_tmrc : (s.setHalted v).tmrc = s.tmrc := rfl
@[simp] theorem State.setHalted_paLatch : (s.setHalted v).paLatch = s.paLatch := rfl
@[simp] theorem State.setHalted_pac : (s.setHalted v).pac = s.pac := rfl
@[simp] theorem State.setHalted_pbLatch : (s.setHalted v).pbLatch = s.pbLatch := rfl
@[simp] theorem State.setHalted_pbc : (s.setHalted v).pbc = s.pbc := rfl
@[simp] theorem State.setHalted_pcLatch : (s.setHalted v).pcLatch = s.pcLatch := rfl
@[simp] theorem State.setHalted_pcc : (s.setHalted v).pcc = s.pcc := rfl
@[simp] theorem State.setHalted_ram : (s.setHalted v).ram = s.ram := rfl
@[simp] theorem State.setHalted_stack : (s.setHalted v).stack = s.stack := rfl
@[simp] theorem State.setHalted_stackFull : (s.setHalted v).stackFull = s.stackFull := rfl
@[simp] theorem State.setHalted_halted : (s.setHalted v).halted = v := rfl
@[simp] theorem State.setHalted_wdt3 : (s.setHalted v).wdt3 = s.wdt3 := rfl
@[simp] theorem State.setHalted_presc : (s.setHalted v).presc = s.presc := rfl
@[simp] theorem State.setHalted_tmrRead : (s.setHalted v).tmrRead = s.tmrRead := rfl
@[simp] theorem State.setHalted_pins : (s.setHalted v).pins = s.pins := rfl
@[simp] theorem State.setHalted_prom : (s.setHalted v).prom = s.prom := rfl
@[simp] theorem State.setHalted_cfg : (s.setHalted v).cfg = s.cfg := rfl
@[simp] theorem State.setHalted_env : (s.setHalted v).env = s.env := rfl
@[simp] theorem State.setHalted_cycles : (s.setHalted v).cycles = s.cycles := rfl
@[simp] theorem State.setHalted_draws : (s.setHalted v).draws = s.draws := rfl

end

/-! ### setWdt3 -/

section
variable (s : State) (v : BitVec 3)

@[simp] theorem State.setWdt3_pc : (s.setWdt3 v).pc = s.pc := rfl
@[simp] theorem State.setWdt3_acc : (s.setWdt3 v).acc = s.acc := rfl
@[simp] theorem State.setWdt3_mp : (s.setWdt3 v).mp = s.mp := rfl
@[simp] theorem State.setWdt3_status : (s.setWdt3 v).status = s.status := rfl
@[simp] theorem State.setWdt3_intc : (s.setWdt3 v).intc = s.intc := rfl
@[simp] theorem State.setWdt3_tmr : (s.setWdt3 v).tmr = s.tmr := rfl
@[simp] theorem State.setWdt3_tmrc : (s.setWdt3 v).tmrc = s.tmrc := rfl
@[simp] theorem State.setWdt3_paLatch : (s.setWdt3 v).paLatch = s.paLatch := rfl
@[simp] theorem State.setWdt3_pac : (s.setWdt3 v).pac = s.pac := rfl
@[simp] theorem State.setWdt3_pbLatch : (s.setWdt3 v).pbLatch = s.pbLatch := rfl
@[simp] theorem State.setWdt3_pbc : (s.setWdt3 v).pbc = s.pbc := rfl
@[simp] theorem State.setWdt3_pcLatch : (s.setWdt3 v).pcLatch = s.pcLatch := rfl
@[simp] theorem State.setWdt3_pcc : (s.setWdt3 v).pcc = s.pcc := rfl
@[simp] theorem State.setWdt3_ram : (s.setWdt3 v).ram = s.ram := rfl
@[simp] theorem State.setWdt3_stack : (s.setWdt3 v).stack = s.stack := rfl
@[simp] theorem State.setWdt3_stackFull : (s.setWdt3 v).stackFull = s.stackFull := rfl
@[simp] theorem State.setWdt3_halted : (s.setWdt3 v).halted = s.halted := rfl
@[simp] theorem State.setWdt3_wdt3 : (s.setWdt3 v).wdt3 = v := rfl
@[simp] theorem State.setWdt3_presc : (s.setWdt3 v).presc = s.presc := rfl
@[simp] theorem State.setWdt3_tmrRead : (s.setWdt3 v).tmrRead = s.tmrRead := rfl
@[simp] theorem State.setWdt3_pins : (s.setWdt3 v).pins = s.pins := rfl
@[simp] theorem State.setWdt3_prom : (s.setWdt3 v).prom = s.prom := rfl
@[simp] theorem State.setWdt3_cfg : (s.setWdt3 v).cfg = s.cfg := rfl
@[simp] theorem State.setWdt3_env : (s.setWdt3 v).env = s.env := rfl
@[simp] theorem State.setWdt3_cycles : (s.setWdt3 v).cycles = s.cycles := rfl
@[simp] theorem State.setWdt3_draws : (s.setWdt3 v).draws = s.draws := rfl

end

/-! ### setPresc -/

section
variable (s : State) (v : BitVec 8)

@[simp] theorem State.setPresc_pc : (s.setPresc v).pc = s.pc := rfl
@[simp] theorem State.setPresc_acc : (s.setPresc v).acc = s.acc := rfl
@[simp] theorem State.setPresc_mp : (s.setPresc v).mp = s.mp := rfl
@[simp] theorem State.setPresc_status : (s.setPresc v).status = s.status := rfl
@[simp] theorem State.setPresc_intc : (s.setPresc v).intc = s.intc := rfl
@[simp] theorem State.setPresc_tmr : (s.setPresc v).tmr = s.tmr := rfl
@[simp] theorem State.setPresc_tmrc : (s.setPresc v).tmrc = s.tmrc := rfl
@[simp] theorem State.setPresc_paLatch : (s.setPresc v).paLatch = s.paLatch := rfl
@[simp] theorem State.setPresc_pac : (s.setPresc v).pac = s.pac := rfl
@[simp] theorem State.setPresc_pbLatch : (s.setPresc v).pbLatch = s.pbLatch := rfl
@[simp] theorem State.setPresc_pbc : (s.setPresc v).pbc = s.pbc := rfl
@[simp] theorem State.setPresc_pcLatch : (s.setPresc v).pcLatch = s.pcLatch := rfl
@[simp] theorem State.setPresc_pcc : (s.setPresc v).pcc = s.pcc := rfl
@[simp] theorem State.setPresc_ram : (s.setPresc v).ram = s.ram := rfl
@[simp] theorem State.setPresc_stack : (s.setPresc v).stack = s.stack := rfl
@[simp] theorem State.setPresc_stackFull : (s.setPresc v).stackFull = s.stackFull := rfl
@[simp] theorem State.setPresc_halted : (s.setPresc v).halted = s.halted := rfl
@[simp] theorem State.setPresc_wdt3 : (s.setPresc v).wdt3 = s.wdt3 := rfl
@[simp] theorem State.setPresc_presc : (s.setPresc v).presc = v := rfl
@[simp] theorem State.setPresc_tmrRead : (s.setPresc v).tmrRead = s.tmrRead := rfl
@[simp] theorem State.setPresc_pins : (s.setPresc v).pins = s.pins := rfl
@[simp] theorem State.setPresc_prom : (s.setPresc v).prom = s.prom := rfl
@[simp] theorem State.setPresc_cfg : (s.setPresc v).cfg = s.cfg := rfl
@[simp] theorem State.setPresc_env : (s.setPresc v).env = s.env := rfl
@[simp] theorem State.setPresc_cycles : (s.setPresc v).cycles = s.cycles := rfl
@[simp] theorem State.setPresc_draws : (s.setPresc v).draws = s.draws := rfl

end

/-! ### setTmrRead -/

section
variable (s : State) (v : Bool)

@[simp] theorem State.setTmrRead_pc : (s.setTmrRead v).pc = s.pc := rfl
@[simp] theorem State.setTmrRead_acc : (s.setTmrRead v).acc = s.acc := rfl
@[simp] theorem State.setTmrRead_mp : (s.setTmrRead v).mp = s.mp := rfl
@[simp] theorem State.setTmrRead_status : (s.setTmrRead v).status = s.status := rfl
@[simp] theorem State.setTmrRead_intc : (s.setTmrRead v).intc = s.intc := rfl
@[simp] theorem State.setTmrRead_tmr : (s.setTmrRead v).tmr = s.tmr := rfl
@[simp] theorem State.setTmrRead_tmrc : (s.setTmrRead v).tmrc = s.tmrc := rfl
@[simp] theorem State.setTmrRead_paLatch : (s.setTmrRead v).paLatch = s.paLatch := rfl
@[simp] theorem State.setTmrRead_pac : (s.setTmrRead v).pac = s.pac := rfl
@[simp] theorem State.setTmrRead_pbLatch : (s.setTmrRead v).pbLatch = s.pbLatch := rfl
@[simp] theorem State.setTmrRead_pbc : (s.setTmrRead v).pbc = s.pbc := rfl
@[simp] theorem State.setTmrRead_pcLatch : (s.setTmrRead v).pcLatch = s.pcLatch := rfl
@[simp] theorem State.setTmrRead_pcc : (s.setTmrRead v).pcc = s.pcc := rfl
@[simp] theorem State.setTmrRead_ram : (s.setTmrRead v).ram = s.ram := rfl
@[simp] theorem State.setTmrRead_stack : (s.setTmrRead v).stack = s.stack := rfl
@[simp] theorem State.setTmrRead_stackFull : (s.setTmrRead v).stackFull = s.stackFull := rfl
@[simp] theorem State.setTmrRead_halted : (s.setTmrRead v).halted = s.halted := rfl
@[simp] theorem State.setTmrRead_wdt3 : (s.setTmrRead v).wdt3 = s.wdt3 := rfl
@[simp] theorem State.setTmrRead_presc : (s.setTmrRead v).presc = s.presc := rfl
@[simp] theorem State.setTmrRead_tmrRead : (s.setTmrRead v).tmrRead = v := rfl
@[simp] theorem State.setTmrRead_pins : (s.setTmrRead v).pins = s.pins := rfl
@[simp] theorem State.setTmrRead_prom : (s.setTmrRead v).prom = s.prom := rfl
@[simp] theorem State.setTmrRead_cfg : (s.setTmrRead v).cfg = s.cfg := rfl
@[simp] theorem State.setTmrRead_env : (s.setTmrRead v).env = s.env := rfl
@[simp] theorem State.setTmrRead_cycles : (s.setTmrRead v).cycles = s.cycles := rfl
@[simp] theorem State.setTmrRead_draws : (s.setTmrRead v).draws = s.draws := rfl

end

/-! ### setPins -/

section
variable (s : State) (v : Pins)

@[simp] theorem State.setPins_pc : (s.setPins v).pc = s.pc := rfl
@[simp] theorem State.setPins_acc : (s.setPins v).acc = s.acc := rfl
@[simp] theorem State.setPins_mp : (s.setPins v).mp = s.mp := rfl
@[simp] theorem State.setPins_status : (s.setPins v).status = s.status := rfl
@[simp] theorem State.setPins_intc : (s.setPins v).intc = s.intc := rfl
@[simp] theorem State.setPins_tmr : (s.setPins v).tmr = s.tmr := rfl
@[simp] theorem State.setPins_tmrc : (s.setPins v).tmrc = s.tmrc := rfl
@[simp] theorem State.setPins_paLatch : (s.setPins v).paLatch = s.paLatch := rfl
@[simp] theorem State.setPins_pac : (s.setPins v).pac = s.pac := rfl
@[simp] theorem State.setPins_pbLatch : (s.setPins v).pbLatch = s.pbLatch := rfl
@[simp] theorem State.setPins_pbc : (s.setPins v).pbc = s.pbc := rfl
@[simp] theorem State.setPins_pcLatch : (s.setPins v).pcLatch = s.pcLatch := rfl
@[simp] theorem State.setPins_pcc : (s.setPins v).pcc = s.pcc := rfl
@[simp] theorem State.setPins_ram : (s.setPins v).ram = s.ram := rfl
@[simp] theorem State.setPins_stack : (s.setPins v).stack = s.stack := rfl
@[simp] theorem State.setPins_stackFull : (s.setPins v).stackFull = s.stackFull := rfl
@[simp] theorem State.setPins_halted : (s.setPins v).halted = s.halted := rfl
@[simp] theorem State.setPins_wdt3 : (s.setPins v).wdt3 = s.wdt3 := rfl
@[simp] theorem State.setPins_presc : (s.setPins v).presc = s.presc := rfl
@[simp] theorem State.setPins_tmrRead : (s.setPins v).tmrRead = s.tmrRead := rfl
@[simp] theorem State.setPins_pins : (s.setPins v).pins = v := rfl
@[simp] theorem State.setPins_prom : (s.setPins v).prom = s.prom := rfl
@[simp] theorem State.setPins_cfg : (s.setPins v).cfg = s.cfg := rfl
@[simp] theorem State.setPins_env : (s.setPins v).env = s.env := rfl
@[simp] theorem State.setPins_cycles : (s.setPins v).cycles = s.cycles := rfl
@[simp] theorem State.setPins_draws : (s.setPins v).draws = s.draws := rfl

end

/-! ### setProm -/

section
variable (s : State) (v : List (Nat × CodeWord))

@[simp] theorem State.setProm_pc : (s.setProm v).pc = s.pc := rfl
@[simp] theorem State.setProm_acc : (s.setProm v).acc = s.acc := rfl
@[simp] theorem State.setProm_mp : (s.setProm v).mp = s.mp := rfl
@[simp] theorem State.setProm_status : (s.setProm v).status = s.status := rfl
@[simp] theorem State.setProm_intc : (s.setProm v).intc = s.intc := rfl
@[simp] theorem State.setProm_tmr : (s.setProm v).tmr = s.tmr := rfl
@[simp] theorem State.setProm_tmrc : (s.setProm v).tmrc = s.tmrc := rfl
@[simp] theorem State.setProm_paLatch : (s.setProm v).paLatch = s.paLatch := rfl
@[simp] theorem State.setProm_pac : (s.setProm v).pac = s.pac := rfl
@[simp] theorem State.setProm_pbLatch : (s.setProm v).pbLatch = s.pbLatch := rfl
@[simp] theorem State.setProm_pbc : (s.setProm v).pbc = s.pbc := rfl
@[simp] theorem State.setProm_pcLatch : (s.setProm v).pcLatch = s.pcLatch := rfl
@[simp] theorem State.setProm_pcc : (s.setProm v).pcc = s.pcc := rfl
@[simp] theorem State.setProm_ram : (s.setProm v).ram = s.ram := rfl
@[simp] theorem State.setProm_stack : (s.setProm v).stack = s.stack := rfl
@[simp] theorem State.setProm_stackFull : (s.setProm v).stackFull = s.stackFull := rfl
@[simp] theorem State.setProm_halted : (s.setProm v).halted = s.halted := rfl
@[simp] theorem State.setProm_wdt3 : (s.setProm v).wdt3 = s.wdt3 := rfl
@[simp] theorem State.setProm_presc : (s.setProm v).presc = s.presc := rfl
@[simp] theorem State.setProm_tmrRead : (s.setProm v).tmrRead = s.tmrRead := rfl
@[simp] theorem State.setProm_pins : (s.setProm v).pins = s.pins := rfl
@[simp] theorem State.setProm_prom : (s.setProm v).prom = v := rfl
@[simp] theorem State.setProm_cfg : (s.setProm v).cfg = s.cfg := rfl
@[simp] theorem State.setProm_env : (s.setProm v).env = s.env := rfl
@[simp] theorem State.setProm_cycles : (s.setProm v).cycles = s.cycles := rfl
@[simp] theorem State.setProm_draws : (s.setProm v).draws = s.draws := rfl

end

/-! ### setEnv -/

section
variable (s : State) (v : List Turn)

@[simp] theorem State.setEnv_pc : (s.setEnv v).pc = s.pc := rfl
@[simp] theorem State.setEnv_acc : (s.setEnv v).acc = s.acc := rfl
@[simp] theorem State.setEnv_mp : (s.setEnv v).mp = s.mp := rfl
@[simp] theorem State.setEnv_status : (s.setEnv v).status = s.status := rfl
@[simp] theorem State.setEnv_intc : (s.setEnv v).intc = s.intc := rfl
@[simp] theorem State.setEnv_tmr : (s.setEnv v).tmr = s.tmr := rfl
@[simp] theorem State.setEnv_tmrc : (s.setEnv v).tmrc = s.tmrc := rfl
@[simp] theorem State.setEnv_paLatch : (s.setEnv v).paLatch = s.paLatch := rfl
@[simp] theorem State.setEnv_pac : (s.setEnv v).pac = s.pac := rfl
@[simp] theorem State.setEnv_pbLatch : (s.setEnv v).pbLatch = s.pbLatch := rfl
@[simp] theorem State.setEnv_pbc : (s.setEnv v).pbc = s.pbc := rfl
@[simp] theorem State.setEnv_pcLatch : (s.setEnv v).pcLatch = s.pcLatch := rfl
@[simp] theorem State.setEnv_pcc : (s.setEnv v).pcc = s.pcc := rfl
@[simp] theorem State.setEnv_ram : (s.setEnv v).ram = s.ram := rfl
@[simp] theorem State.setEnv_stack : (s.setEnv v).stack = s.stack := rfl
@[simp] theorem State.setEnv_stackFull : (s.setEnv v).stackFull = s.stackFull := rfl
@[simp] theorem State.setEnv_halted : (s.setEnv v).halted = s.halted := rfl
@[simp] theorem State.setEnv_wdt3 : (s.setEnv v).wdt3 = s.wdt3 := rfl
@[simp] theorem State.setEnv_presc : (s.setEnv v).presc = s.presc := rfl
@[simp] theorem State.setEnv_tmrRead : (s.setEnv v).tmrRead = s.tmrRead := rfl
@[simp] theorem State.setEnv_pins : (s.setEnv v).pins = s.pins := rfl
@[simp] theorem State.setEnv_prom : (s.setEnv v).prom = s.prom := rfl
@[simp] theorem State.setEnv_cfg : (s.setEnv v).cfg = s.cfg := rfl
@[simp] theorem State.setEnv_env : (s.setEnv v).env = v := rfl
@[simp] theorem State.setEnv_cycles : (s.setEnv v).cycles = s.cycles := rfl
@[simp] theorem State.setEnv_draws : (s.setEnv v).draws = s.draws := rfl

end

/-! ### setCycles -/

section
variable (s : State) (v : Nat)

@[simp] theorem State.setCycles_pc : (s.setCycles v).pc = s.pc := rfl
@[simp] theorem State.setCycles_acc : (s.setCycles v).acc = s.acc := rfl
@[simp] theorem State.setCycles_mp : (s.setCycles v).mp = s.mp := rfl
@[simp] theorem State.setCycles_status : (s.setCycles v).status = s.status := rfl
@[simp] theorem State.setCycles_intc : (s.setCycles v).intc = s.intc := rfl
@[simp] theorem State.setCycles_tmr : (s.setCycles v).tmr = s.tmr := rfl
@[simp] theorem State.setCycles_tmrc : (s.setCycles v).tmrc = s.tmrc := rfl
@[simp] theorem State.setCycles_paLatch : (s.setCycles v).paLatch = s.paLatch := rfl
@[simp] theorem State.setCycles_pac : (s.setCycles v).pac = s.pac := rfl
@[simp] theorem State.setCycles_pbLatch : (s.setCycles v).pbLatch = s.pbLatch := rfl
@[simp] theorem State.setCycles_pbc : (s.setCycles v).pbc = s.pbc := rfl
@[simp] theorem State.setCycles_pcLatch : (s.setCycles v).pcLatch = s.pcLatch := rfl
@[simp] theorem State.setCycles_pcc : (s.setCycles v).pcc = s.pcc := rfl
@[simp] theorem State.setCycles_ram : (s.setCycles v).ram = s.ram := rfl
@[simp] theorem State.setCycles_stack : (s.setCycles v).stack = s.stack := rfl
@[simp] theorem State.setCycles_stackFull : (s.setCycles v).stackFull = s.stackFull := rfl
@[simp] theorem State.setCycles_halted : (s.setCycles v).halted = s.halted := rfl
@[simp] theorem State.setCycles_wdt3 : (s.setCycles v).wdt3 = s.wdt3 := rfl
@[simp] theorem State.setCycles_presc : (s.setCycles v).presc = s.presc := rfl
@[simp] theorem State.setCycles_tmrRead : (s.setCycles v).tmrRead = s.tmrRead := rfl
@[simp] theorem State.setCycles_pins : (s.setCycles v).pins = s.pins := rfl
@[simp] theorem State.setCycles_prom : (s.setCycles v).prom = s.prom := rfl
@[simp] theorem State.setCycles_cfg : (s.setCycles v).cfg = s.cfg := rfl
@[simp] theorem State.setCycles_env : (s.setCycles v).env = s.env := rfl
@[simp] theorem State.setCycles_cycles : (s.setCycles v).cycles = v := rfl
@[simp] theorem State.setCycles_draws : (s.setCycles v).draws = s.draws := rfl

end

/-! ### setDraws -/

section
variable (s : State) (v : Nat)

@[simp] theorem State.setDraws_pc : (s.setDraws v).pc = s.pc := rfl
@[simp] theorem State.setDraws_acc : (s.setDraws v).acc = s.acc := rfl
@[simp] theorem State.setDraws_mp : (s.setDraws v).mp = s.mp := rfl
@[simp] theorem State.setDraws_status : (s.setDraws v).status = s.status := rfl
@[simp] theorem State.setDraws_intc : (s.setDraws v).intc = s.intc := rfl
@[simp] theorem State.setDraws_tmr : (s.setDraws v).tmr = s.tmr := rfl
@[simp] theorem State.setDraws_tmrc : (s.setDraws v).tmrc = s.tmrc := rfl
@[simp] theorem State.setDraws_paLatch : (s.setDraws v).paLatch = s.paLatch := rfl
@[simp] theorem State.setDraws_pac : (s.setDraws v).pac = s.pac := rfl
@[simp] theorem State.setDraws_pbLatch : (s.setDraws v).pbLatch = s.pbLatch := rfl
@[simp] theorem State.setDraws_pbc : (s.setDraws v).pbc = s.pbc := rfl
@[simp] theorem State.setDraws_pcLatch : (s.setDraws v).pcLatch = s.pcLatch := rfl
@[simp] theorem State.setDraws_pcc : (s.setDraws v).pcc = s.pcc := rfl
@[simp] theorem State.setDraws_ram : (s.setDraws v).ram = s.ram := rfl
@[simp] theorem State.setDraws_stack : (s.setDraws v).stack = s.stack := rfl
@[simp] theorem State.setDraws_stackFull : (s.setDraws v).stackFull = s.stackFull := rfl
@[simp] theorem State.setDraws_halted : (s.setDraws v).halted = s.halted := rfl
@[simp] theorem State.setDraws_wdt3 : (s.setDraws v).wdt3 = s.wdt3 := rfl
@[simp] theorem State.setDraws_presc : (s.setDraws v).presc = s.presc := rfl
@[simp] theorem State.setDraws_tmrRead : (s.setDraws v).tmrRead = s.tmrRead := rfl
@[simp] theorem State.setDraws_pins : (s.setDraws v).pins = s.pins := rfl
@[simp] theorem State.setDraws_prom : (s.setDraws v).prom = s.prom := rfl
@[simp] theorem State.setDraws_cfg : (s.setDraws v).cfg = s.cfg := rfl
@[simp] theorem State.setDraws_env : (s.setDraws v).env = s.env := rfl
@[simp] theorem State.setDraws_cycles : (s.setDraws v).cycles = s.cycles := rfl
@[simp] theorem State.setDraws_draws : (s.setDraws v).draws = v := rfl

end

end Sys2Proof.Machine
end

