-- ==== Sys2Proof/Laws/Ops.lean ====
section
/-! SUPPORT. The laws of the shared operations: for each, once, everything it can do. -/

namespace Sys2Proof.Machine

/-! ### Control transfer, stack, prologue: one lemma per field -/

section
variable (s : State) (v : ProgAddr)

@[simp] theorem State.goto_pc : (s.goto v).pc = v := rfl
@[simp] theorem State.goto_acc : (s.goto v).acc = s.acc := rfl
@[simp] theorem State.goto_mp : (s.goto v).mp = s.mp := rfl
@[simp] theorem State.goto_status : (s.goto v).status = s.status := rfl
@[simp] theorem State.goto_intc : (s.goto v).intc = s.intc := rfl
@[simp] theorem State.goto_tmr : (s.goto v).tmr = s.tmr := rfl
@[simp] theorem State.goto_tmrc : (s.goto v).tmrc = s.tmrc := rfl
@[simp] theorem State.goto_paLatch : (s.goto v).paLatch = s.paLatch := rfl
@[simp] theorem State.goto_pac : (s.goto v).pac = s.pac := rfl
@[simp] theorem State.goto_pbLatch : (s.goto v).pbLatch = s.pbLatch := rfl
@[simp] theorem State.goto_pbc : (s.goto v).pbc = s.pbc := rfl
@[simp] theorem State.goto_pcLatch : (s.goto v).pcLatch = s.pcLatch := rfl
@[simp] theorem State.goto_pcc : (s.goto v).pcc = s.pcc := rfl
@[simp] theorem State.goto_ram : (s.goto v).ram = s.ram := rfl
@[simp] theorem State.goto_stack : (s.goto v).stack = s.stack := rfl
@[simp] theorem State.goto_stackFull : (s.goto v).stackFull = s.stackFull := rfl
@[simp] theorem State.goto_halted : (s.goto v).halted = s.halted := rfl
@[simp] theorem State.goto_wdt3 : (s.goto v).wdt3 = s.wdt3 := rfl
@[simp] theorem State.goto_presc : (s.goto v).presc = s.presc := rfl
@[simp] theorem State.goto_tmrRead : (s.goto v).tmrRead = s.tmrRead := rfl
@[simp] theorem State.goto_pins : (s.goto v).pins = s.pins := rfl
@[simp] theorem State.goto_prom : (s.goto v).prom = s.prom := rfl
@[simp] theorem State.goto_cfg : (s.goto v).cfg = s.cfg := rfl
@[simp] theorem State.goto_env : (s.goto v).env = s.env := rfl
@[simp] theorem State.goto_cycles : (s.goto v).cycles = s.cycles + 1 := rfl
@[simp] theorem State.goto_draws : (s.goto v).draws = s.draws := rfl

@[simp] theorem State.push_pc : (s.push v).pc = s.pc := rfl
@[simp] theorem State.push_acc : (s.push v).acc = s.acc := rfl
@[simp] theorem State.push_mp : (s.push v).mp = s.mp := rfl
@[simp] theorem State.push_status : (s.push v).status = s.status := rfl
@[simp] theorem State.push_intc : (s.push v).intc = s.intc := rfl
@[simp] theorem State.push_tmr : (s.push v).tmr = s.tmr := rfl
@[simp] theorem State.push_tmrc : (s.push v).tmrc = s.tmrc := rfl
@[simp] theorem State.push_paLatch : (s.push v).paLatch = s.paLatch := rfl
@[simp] theorem State.push_pac : (s.push v).pac = s.pac := rfl
@[simp] theorem State.push_pbLatch : (s.push v).pbLatch = s.pbLatch := rfl
@[simp] theorem State.push_pbc : (s.push v).pbc = s.pbc := rfl
@[simp] theorem State.push_pcLatch : (s.push v).pcLatch = s.pcLatch := rfl
@[simp] theorem State.push_pcc : (s.push v).pcc = s.pcc := rfl
@[simp] theorem State.push_ram : (s.push v).ram = s.ram := rfl
@[simp] theorem State.push_stack : (s.push v).stack = v := rfl
@[simp] theorem State.push_stackFull : (s.push v).stackFull = true := rfl
@[simp] theorem State.push_halted : (s.push v).halted = s.halted := rfl
@[simp] theorem State.push_wdt3 : (s.push v).wdt3 = s.wdt3 := rfl
@[simp] theorem State.push_presc : (s.push v).presc = s.presc := rfl
@[simp] theorem State.push_tmrRead : (s.push v).tmrRead = s.tmrRead := rfl
@[simp] theorem State.push_pins : (s.push v).pins = s.pins := rfl
@[simp] theorem State.push_prom : (s.push v).prom = s.prom := rfl
@[simp] theorem State.push_cfg : (s.push v).cfg = s.cfg := rfl
@[simp] theorem State.push_env : (s.push v).env = s.env := rfl
@[simp] theorem State.push_cycles : (s.push v).cycles = s.cycles := rfl
@[simp] theorem State.push_draws : (s.push v).draws = s.draws := rfl

@[simp] theorem State.pop_pc : (s.pop).pc = s.stack := rfl
@[simp] theorem State.pop_acc : (s.pop).acc = s.acc := rfl
@[simp] theorem State.pop_mp : (s.pop).mp = s.mp := rfl
@[simp] theorem State.pop_status : (s.pop).status = s.status := rfl
@[simp] theorem State.pop_intc : (s.pop).intc = s.intc := rfl
@[simp] theorem State.pop_tmr : (s.pop).tmr = s.tmr := rfl
@[simp] theorem State.pop_tmrc : (s.pop).tmrc = s.tmrc := rfl
@[simp] theorem State.pop_paLatch : (s.pop).paLatch = s.paLatch := rfl
@[simp] theorem State.pop_pac : (s.pop).pac = s.pac := rfl
@[simp] theorem State.pop_pbLatch : (s.pop).pbLatch = s.pbLatch := rfl
@[simp] theorem State.pop_pbc : (s.pop).pbc = s.pbc := rfl
@[simp] theorem State.pop_pcLatch : (s.pop).pcLatch = s.pcLatch := rfl
@[simp] theorem State.pop_pcc : (s.pop).pcc = s.pcc := rfl
@[simp] theorem State.pop_ram : (s.pop).ram = s.ram := rfl
@[simp] theorem State.pop_stack : (s.pop).stack = s.stack := rfl
@[simp] theorem State.pop_stackFull : (s.pop).stackFull = false := rfl
@[simp] theorem State.pop_halted : (s.pop).halted = s.halted := rfl
@[simp] theorem State.pop_wdt3 : (s.pop).wdt3 = s.wdt3 := rfl
@[simp] theorem State.pop_presc : (s.pop).presc = s.presc := rfl
@[simp] theorem State.pop_tmrRead : (s.pop).tmrRead = s.tmrRead := rfl
@[simp] theorem State.pop_pins : (s.pop).pins = s.pins := rfl
@[simp] theorem State.pop_prom : (s.pop).prom = s.prom := rfl
@[simp] theorem State.pop_cfg : (s.pop).cfg = s.cfg := rfl
@[simp] theorem State.pop_env : (s.pop).env = s.env := rfl
@[simp] theorem State.pop_cycles : (s.pop).cycles = s.cycles + 1 := rfl
@[simp] theorem State.pop_draws : (s.pop).draws = s.draws := rfl

@[simp] theorem State.begin_pc : (s.begin).pc = s.pc + 1 := rfl
@[simp] theorem State.begin_acc : (s.begin).acc = s.acc := rfl
@[simp] theorem State.begin_mp : (s.begin).mp = s.mp := rfl
@[simp] theorem State.begin_status : (s.begin).status = s.status := rfl
@[simp] theorem State.begin_intc : (s.begin).intc = s.intc := rfl
@[simp] theorem State.begin_tmr : (s.begin).tmr = s.tmr := rfl
@[simp] theorem State.begin_tmrc : (s.begin).tmrc = s.tmrc := rfl
@[simp] theorem State.begin_paLatch : (s.begin).paLatch = s.paLatch := rfl
@[simp] theorem State.begin_pac : (s.begin).pac = s.pac := rfl
@[simp] theorem State.begin_pbLatch : (s.begin).pbLatch = s.pbLatch := rfl
@[simp] theorem State.begin_pbc : (s.begin).pbc = s.pbc := rfl
@[simp] theorem State.begin_pcLatch : (s.begin).pcLatch = s.pcLatch := rfl
@[simp] theorem State.begin_pcc : (s.begin).pcc = s.pcc := rfl
@[simp] theorem State.begin_ram : (s.begin).ram = s.ram := rfl
@[simp] theorem State.begin_stack : (s.begin).stack = s.stack := rfl
@[simp] theorem State.begin_stackFull : (s.begin).stackFull = s.stackFull := rfl
@[simp] theorem State.begin_halted : (s.begin).halted = s.halted := rfl
@[simp] theorem State.begin_wdt3 : (s.begin).wdt3 = s.wdt3 := rfl
@[simp] theorem State.begin_presc : (s.begin).presc = s.presc := rfl
@[simp] theorem State.begin_tmrRead : (s.begin).tmrRead = false := rfl
@[simp] theorem State.begin_pins : (s.begin).pins = s.pins := rfl
@[simp] theorem State.begin_prom : (s.begin).prom = s.prom := rfl
@[simp] theorem State.begin_cfg : (s.begin).cfg = s.cfg := rfl
@[simp] theorem State.begin_env : (s.begin).env = s.env := rfl
@[simp] theorem State.begin_cycles : (s.begin).cycles = s.cycles + 1 := rfl
@[simp] theorem State.begin_draws : (s.begin).draws = s.draws := rfl

@[simp] theorem State.enableInterrupts_pc : (s.enableInterrupts).pc = s.pc := rfl
@[simp] theorem State.enableInterrupts_acc : (s.enableInterrupts).acc = s.acc := rfl
@[simp] theorem State.enableInterrupts_mp : (s.enableInterrupts).mp = s.mp := rfl
@[simp] theorem State.enableInterrupts_status : (s.enableInterrupts).status = s.status := rfl
@[simp] theorem State.enableInterrupts_intc : (s.enableInterrupts).intc = { s.intc with emi := true } := rfl
@[simp] theorem State.enableInterrupts_tmr : (s.enableInterrupts).tmr = s.tmr := rfl
@[simp] theorem State.enableInterrupts_tmrc : (s.enableInterrupts).tmrc = s.tmrc := rfl
@[simp] theorem State.enableInterrupts_paLatch : (s.enableInterrupts).paLatch = s.paLatch := rfl
@[simp] theorem State.enableInterrupts_pac : (s.enableInterrupts).pac = s.pac := rfl
@[simp] theorem State.enableInterrupts_pbLatch : (s.enableInterrupts).pbLatch = s.pbLatch := rfl
@[simp] theorem State.enableInterrupts_pbc : (s.enableInterrupts).pbc = s.pbc := rfl
@[simp] theorem State.enableInterrupts_pcLatch : (s.enableInterrupts).pcLatch = s.pcLatch := rfl
@[simp] theorem State.enableInterrupts_pcc : (s.enableInterrupts).pcc = s.pcc := rfl
@[simp] theorem State.enableInterrupts_ram : (s.enableInterrupts).ram = s.ram := rfl
@[simp] theorem State.enableInterrupts_stack : (s.enableInterrupts).stack = s.stack := rfl
@[simp] theorem State.enableInterrupts_stackFull : (s.enableInterrupts).stackFull = s.stackFull := rfl
@[simp] theorem State.enableInterrupts_halted : (s.enableInterrupts).halted = s.halted := rfl
@[simp] theorem State.enableInterrupts_wdt3 : (s.enableInterrupts).wdt3 = s.wdt3 := rfl
@[simp] theorem State.enableInterrupts_presc : (s.enableInterrupts).presc = s.presc := rfl
@[simp] theorem State.enableInterrupts_tmrRead : (s.enableInterrupts).tmrRead = s.tmrRead := rfl
@[simp] theorem State.enableInterrupts_pins : (s.enableInterrupts).pins = s.pins := rfl
@[simp] theorem State.enableInterrupts_prom : (s.enableInterrupts).prom = s.prom := rfl
@[simp] theorem State.enableInterrupts_cfg : (s.enableInterrupts).cfg = s.cfg := rfl
@[simp] theorem State.enableInterrupts_env : (s.enableInterrupts).env = s.env := rfl
@[simp] theorem State.enableInterrupts_cycles : (s.enableInterrupts).cycles = s.cycles := rfl
@[simp] theorem State.enableInterrupts_draws : (s.enableInterrupts).draws = s.draws := rfl

end

/-- An interrupt entry, whole (R248). -/
theorem interruptEntry_eq (src : Source) (s : State) :
    interruptEntry src s = { s with
      stack := s.pc, stackFull := true, pc := src.vector, intc := s.intc.enter src, tmrRead := false,
      cycles := s.cycles + Config.interruptEntryCycles } := rfl

/-- A skip, in both cases (R209). -/
theorem State.skipIf_true (s : State) : s.skipIf true = s.goto (s.pc + 1) := rfl

theorem State.skipIf_false (s : State) : s.skipIf false = s := rfl

/-- A skip changes the program counter and the cycles only. -/
theorem State.skipIf_cases (s : State) (b : Bool) :
    (b = true ∧ s.skipIf b = { s with pc := s.pc + 1, cycles := s.cycles + 1 }) ∨ (b = false ∧ s.skipIf b = s) := by
  cases b
  · exact .inr ⟨rfl, rfl⟩
  · exact .inl ⟨rfl, rfl⟩

section
variable (s : State) (b : Bool)

@[simp] theorem State.skipIf_acc : (s.skipIf b).acc = s.acc := by cases b <;> rfl
@[simp] theorem State.skipIf_mp : (s.skipIf b).mp = s.mp := by cases b <;> rfl
@[simp] theorem State.skipIf_status : (s.skipIf b).status = s.status := by cases b <;> rfl
@[simp] theorem State.skipIf_intc : (s.skipIf b).intc = s.intc := by cases b <;> rfl
@[simp] theorem State.skipIf_tmr : (s.skipIf b).tmr = s.tmr := by cases b <;> rfl
@[simp] theorem State.skipIf_tmrc : (s.skipIf b).tmrc = s.tmrc := by cases b <;> rfl
@[simp] theorem State.skipIf_paLatch : (s.skipIf b).paLatch = s.paLatch := by cases b <;> rfl
@[simp] theorem State.skipIf_pac : (s.skipIf b).pac = s.pac := by cases b <;> rfl
@[simp] theorem State.skipIf_pbLatch : (s.skipIf b).pbLatch = s.pbLatch := by cases b <;> rfl
@[simp] theorem State.skipIf_pbc : (s.skipIf b).pbc = s.pbc := by cases b <;> rfl
@[simp] theorem State.skipIf_pcLatch : (s.skipIf b).pcLatch = s.pcLatch := by cases b <;> rfl
@[simp] theorem State.skipIf_pcc : (s.skipIf b).pcc = s.pcc := by cases b <;> rfl
@[simp] theorem State.skipIf_ram : (s.skipIf b).ram = s.ram := by cases b <;> rfl
@[simp] theorem State.skipIf_stack : (s.skipIf b).stack = s.stack := by cases b <;> rfl
@[simp] theorem State.skipIf_stackFull : (s.skipIf b).stackFull = s.stackFull := by cases b <;> rfl
@[simp] theorem State.skipIf_halted : (s.skipIf b).halted = s.halted := by cases b <;> rfl
@[simp] theorem State.skipIf_wdt3 : (s.skipIf b).wdt3 = s.wdt3 := by cases b <;> rfl
@[simp] theorem State.skipIf_presc : (s.skipIf b).presc = s.presc := by cases b <;> rfl
@[simp] theorem State.skipIf_tmrRead : (s.skipIf b).tmrRead = s.tmrRead := by cases b <;> rfl
@[simp] theorem State.skipIf_pins : (s.skipIf b).pins = s.pins := by cases b <;> rfl
@[simp] theorem State.skipIf_prom : (s.skipIf b).prom = s.prom := by cases b <;> rfl
@[simp] theorem State.skipIf_cfg : (s.skipIf b).cfg = s.cfg := by cases b <;> rfl
@[simp] theorem State.skipIf_env : (s.skipIf b).env = s.env := by cases b <;> rfl
@[simp] theorem State.skipIf_draws : (s.skipIf b).draws = s.draws := by cases b <;> rfl

end

/-! ### The watchdog instructions -/

/-- CLR WDT and HALT clear the last three stages, or with the watchdog disabled do nothing to them (R265); nothing else. -/
theorem State.clearWdt3_eq (s : State) :
    s.clearWdt3 = { s with wdt3 := if s.cfg.opt.wdtDisable then s.wdt3 else 0 } := by
  unfold State.clearWdt3
  split <;> rfl

/-- What is written to TO and PD (D21); nothing else. -/
theorem State.writeToPd_eq (s : State) (tmo pd : Bool) :
    s.writeToPd tmo pd = { s with
      status := if s.cfg.opt.wdtDisable && !s.cfg.wdtOffFlagWrites then s.status
        else { s.status with tmo := tmo, pd := pd } } := by
  unfold State.writeToPd
  split <;> rfl

/-- A return answers a next state exactly when something is on the stack (R207). -/
theorem returning_eq_next {k : State → State} {s t : State} :
    returning k s = .next t ↔ s.stackFull = true ∧ t = k s.pop := by
  unfold returning
  split
  · next h => simp [h, eq_comm]
  · next h => simp [h]

/-! ### The data memory map (R43) -/

theorem locOf_beyond : ∀ e : DataAddr, locOf e = .beyond ↔ 0x40 ≤ e.toNat := by decide

theorem locOf_null : ∀ e : DataAddr, locOf e = .null ↔ e.toNat = 0x00 := by decide

theorem locOf_mp : ∀ e : DataAddr, locOf e = .mp ↔ e.toNat = 0x01 := by decide

theorem locOf_acc : ∀ e : DataAddr, locOf e = .acc ↔ e.toNat = 0x05 := by decide

theorem locOf_pcl : ∀ e : DataAddr, locOf e = .pcl ↔ e.toNat = 0x06 := by decide

theorem locOf_status : ∀ e : DataAddr, locOf e = .status ↔ e.toNat = 0x0A := by decide

theorem locOf_intc : ∀ e : DataAddr, locOf e = .intc ↔ e.toNat = 0x0B := by decide

theorem locOf_tmr : ∀ e : DataAddr, locOf e = .tmr ↔ e.toNat = 0x0D := by decide

theorem locOf_tmrc : ∀ e : DataAddr, locOf e = .tmrc ↔ e.toNat = 0x0E := by decide

theorem locOf_pa : ∀ e : DataAddr, locOf e = .pa ↔ e.toNat = 0x12 := by decide

theorem locOf_pac : ∀ e : DataAddr, locOf e = .pac ↔ e.toNat = 0x13 := by decide

theorem locOf_pb : ∀ e : DataAddr, locOf e = .pb ↔ e.toNat = 0x14 := by decide

theorem locOf_pbc : ∀ e : DataAddr, locOf e = .pbc ↔ e.toNat = 0x15 := by decide

theorem locOf_pc : ∀ e : DataAddr, locOf e = .pc ↔ e.toNat = 0x16 := by decide

theorem locOf_pcc : ∀ e : DataAddr, locOf e = .pcc ↔ e.toNat = 0x17 := by decide

theorem locOf_unused : ∀ e : DataAddr, locOf e = .unused ↔
    e.toNat ∈ [0x02, 0x03, 0x04, 0x07, 0x08, 0x09, 0x0C, 0x0F, 0x10, 0x11] ∨ (0x18 ≤ e.toNat ∧ e.toNat < 0x20) := by
  decide

theorem locOf_ram (e : DataAddr) (a : Nat) : locOf e = .ram a ↔ 0x20 ≤ e.toNat ∧ e.toNat < 0x40 ∧ a = e.toNat := by
  have key : ∀ e : DataAddr, (0x20 ≤ e.toNat ∧ e.toNat < 0x40 ∧ locOf e = .ram e.toNat) ∨
      (¬ (0x20 ≤ e.toNat ∧ e.toNat < 0x40) ∧ (match locOf e with | .ram _ => true | _ => false) = false) := by
    decide
  rcases key e with ⟨h, h', he⟩ | ⟨h, he⟩
  · rw [he, Loc.ram.injEq]
    exact ⟨fun hh => ⟨h, h', hh.symm⟩, fun hh => hh.2.2.symm⟩
  · constructor
    · intro hh
      rw [hh] at he
      cases he
    · exact fun hh => absurd ⟨hh.1, hh.2.1⟩ h

/-- A RAM location an operand names lies in 20H to 3FH. -/
theorem locate_ram_isRam {m : OperandAddr} {s : State} {a : Nat} (h : locate m s = .ram a) :
    Memory.isRam a = true := by
  have := (locOf_ram _ _).mp h
  simp only [Memory.isRam, Bool.and_eq_true, decide_eq_true_eq]
  omega

theorem accessible_iff {m : OperandAddr} {s : State} :
    accessible m s = true ↔ (effectiveAddr m s).toNat < 0x40 := by
  unfold accessible
  rw [decide_eq_true_eq, ne_eq, locate, locOf_beyond]
  omega

/-! ### Reads -/

/-- The only side effect of a read (R271, R84). -/
theorem readEffect_cases (l : Loc) (s : State) :
    readEffect l s = s ∨ (l = .tmr ∧ s.tmrc.ton = true ∧ readEffect l s = { s with tmrRead := true }) := by
  by_cases hl : l = .tmr
  · subst hl
    by_cases h : s.tmrc.ton = true
    · exact .inr ⟨rfl, h, by simp only [readEffect, h, if_true]; rfl⟩
    · exact .inl (by simp [readEffect, h])
  · exact .inl (by cases l <;> first | rfl | exact absurd rfl hl)

/-- A read changes the window of a TMR read and nothing else. -/
theorem readEffect_eq (l : Loc) (s : State) : readEffect l s = { s with tmrRead := (readEffect l s).tmrRead } := by
  rcases readEffect_cases l s with h | ⟨_, _, h⟩ <;> rw [h]

section
variable (l : Loc) (s : State)

@[simp] theorem readEffect_pc : (readEffect l s).pc = s.pc := by rw [readEffect_eq]
@[simp] theorem readEffect_acc : (readEffect l s).acc = s.acc := by rw [readEffect_eq]
@[simp] theorem readEffect_mp : (readEffect l s).mp = s.mp := by rw [readEffect_eq]
@[simp] theorem readEffect_status : (readEffect l s).status = s.status := by rw [readEffect_eq]
@[simp] theorem readEffect_intc : (readEffect l s).intc = s.intc := by rw [readEffect_eq]
@[simp] theorem readEffect_tmr : (readEffect l s).tmr = s.tmr := by rw [readEffect_eq]
@[simp] theorem readEffect_tmrc : (readEffect l s).tmrc = s.tmrc := by rw [readEffect_eq]
@[simp] theorem readEffect_paLatch : (readEffect l s).paLatch = s.paLatch := by rw [readEffect_eq]
@[simp] theorem readEffect_pac : (readEffect l s).pac = s.pac := by rw [readEffect_eq]
@[simp] theorem readEffect_pbLatch : (readEffect l s).pbLatch = s.pbLatch := by rw [readEffect_eq]
@[simp] theorem readEffect_pbc : (readEffect l s).pbc = s.pbc := by rw [readEffect_eq]
@[simp] theorem readEffect_pcLatch : (readEffect l s).pcLatch = s.pcLatch := by rw [readEffect_eq]
@[simp] theorem readEffect_pcc : (readEffect l s).pcc = s.pcc := by rw [readEffect_eq]
@[simp] theorem readEffect_ram : (readEffect l s).ram = s.ram := by rw [readEffect_eq]
@[simp] theorem readEffect_stack : (readEffect l s).stack = s.stack := by rw [readEffect_eq]
@[simp] theorem readEffect_stackFull : (readEffect l s).stackFull = s.stackFull := by rw [readEffect_eq]
@[simp] theorem readEffect_halted : (readEffect l s).halted = s.halted := by rw [readEffect_eq]
@[simp] theorem readEffect_wdt3 : (readEffect l s).wdt3 = s.wdt3 := by rw [readEffect_eq]
@[simp] theorem readEffect_presc : (readEffect l s).presc = s.presc := by rw [readEffect_eq]
@[simp] theorem readEffect_pins : (readEffect l s).pins = s.pins := by rw [readEffect_eq]
@[simp] theorem readEffect_prom : (readEffect l s).prom = s.prom := by rw [readEffect_eq]
@[simp] theorem readEffect_cfg : (readEffect l s).cfg = s.cfg := by rw [readEffect_eq]
@[simp] theorem readEffect_env : (readEffect l s).env = s.env := by rw [readEffect_eq]
@[simp] theorem readEffect_cycles : (readEffect l s).cycles = s.cycles := by rw [readEffect_eq]
@[simp] theorem readEffect_draws : (readEffect l s).draws = s.draws := by rw [readEffect_eq]

end

section
variable (m : OperandAddr) (s : State)

@[simp] theorem afterRead_pc : (afterRead m s).pc = s.pc := readEffect_pc _ s
@[simp] theorem afterRead_acc : (afterRead m s).acc = s.acc := readEffect_acc _ s
@[simp] theorem afterRead_mp : (afterRead m s).mp = s.mp := readEffect_mp _ s
@[simp] theorem afterRead_status : (afterRead m s).status = s.status := readEffect_status _ s
@[simp] theorem afterRead_intc : (afterRead m s).intc = s.intc := readEffect_intc _ s
@[simp] theorem afterRead_tmr : (afterRead m s).tmr = s.tmr := readEffect_tmr _ s
@[simp] theorem afterRead_tmrc : (afterRead m s).tmrc = s.tmrc := readEffect_tmrc _ s
@[simp] theorem afterRead_paLatch : (afterRead m s).paLatch = s.paLatch := readEffect_paLatch _ s
@[simp] theorem afterRead_pac : (afterRead m s).pac = s.pac := readEffect_pac _ s
@[simp] theorem afterRead_pbLatch : (afterRead m s).pbLatch = s.pbLatch := readEffect_pbLatch _ s
@[simp] theorem afterRead_pbc : (afterRead m s).pbc = s.pbc := readEffect_pbc _ s
@[simp] theorem afterRead_pcLatch : (afterRead m s).pcLatch = s.pcLatch := readEffect_pcLatch _ s
@[simp] theorem afterRead_pcc : (afterRead m s).pcc = s.pcc := readEffect_pcc _ s
@[simp] theorem afterRead_ram : (afterRead m s).ram = s.ram := readEffect_ram _ s
@[simp] theorem afterRead_stack : (afterRead m s).stack = s.stack := readEffect_stack _ s
@[simp] theorem afterRead_stackFull : (afterRead m s).stackFull = s.stackFull := readEffect_stackFull _ s
@[simp] theorem afterRead_halted : (afterRead m s).halted = s.halted := readEffect_halted _ s
@[simp] theorem afterRead_wdt3 : (afterRead m s).wdt3 = s.wdt3 := readEffect_wdt3 _ s
@[simp] theorem afterRead_presc : (afterRead m s).presc = s.presc := readEffect_presc _ s
@[simp] theorem afterRead_pins : (afterRead m s).pins = s.pins := readEffect_pins _ s
@[simp] theorem afterRead_prom : (afterRead m s).prom = s.prom := readEffect_prom _ s
@[simp] theorem afterRead_cfg : (afterRead m s).cfg = s.cfg := readEffect_cfg _ s
@[simp] theorem afterRead_env : (afterRead m s).env = s.env := readEffect_env _ s
@[simp] theorem afterRead_cycles : (afterRead m s).cycles = s.cycles := readEffect_cycles _ s
@[simp] theorem afterRead_draws : (afterRead m s).draws = s.draws := readEffect_draws _ s

end

/-! ### Writes: the fields no data write reaches -/

section
variable (l : Loc) (v : Byte) (s : State)

@[simp] theorem writeLoc_stack : (writeLoc l v s).stack = s.stack := by cases l <;> rfl
@[simp] theorem writeLoc_stackFull : (writeLoc l v s).stackFull = s.stackFull := by cases l <;> rfl
@[simp] theorem writeLoc_halted : (writeLoc l v s).halted = s.halted := by cases l <;> rfl
@[simp] theorem writeLoc_wdt3 : (writeLoc l v s).wdt3 = s.wdt3 := by cases l <;> rfl
@[simp] theorem writeLoc_presc : (writeLoc l v s).presc = s.presc := by cases l <;> rfl
@[simp] theorem writeLoc_tmrRead : (writeLoc l v s).tmrRead = s.tmrRead := by cases l <;> rfl
@[simp] theorem writeLoc_pins : (writeLoc l v s).pins = s.pins := by cases l <;> rfl
@[simp] theorem writeLoc_prom : (writeLoc l v s).prom = s.prom := by cases l <;> rfl
@[simp] theorem writeLoc_cfg : (writeLoc l v s).cfg = s.cfg := by cases l <;> rfl
@[simp] theorem writeLoc_env : (writeLoc l v s).env = s.env := by cases l <;> rfl
@[simp] theorem writeLoc_draws : (writeLoc l v s).draws = s.draws := by cases l <;> rfl

/-- A data write never changes PD (R32, R34). -/
@[simp] theorem writeLoc_pd : (writeLoc l v s).status.pd = s.status.pd := by cases l <;> rfl

/-- A data write never changes TO (R33, R34). -/
@[simp] theorem writeLoc_tmo : (writeLoc l v s).status.tmo = s.status.tmo := by cases l <;> rfl

/-- Away from STATUS a data write leaves it whole. -/
theorem writeLoc_status (h : l ≠ .status) : (writeLoc l v s).status = s.status := by
  cases l <;> first | rfl | exact absurd rfl h

/-- Away from RAM a data write leaves it whole. -/
theorem writeLoc_ram (h : ∀ a, l ≠ .ram a) : (writeLoc l v s).ram = s.ram := by
  cases l <;> first | rfl | exact absurd rfl (h _)

/-- Away from PCL a data write leaves the program counter and takes no cycle more. -/
theorem writeLoc_pc (h : l ≠ .pcl) : (writeLoc l v s).pc = s.pc ∧ (writeLoc l v s).cycles = s.cycles := by
  cases l <;> first | exact ⟨rfl, rfl⟩ | exact absurd rfl h

/-- A write at a location of RAM keeps the canonical form. -/
theorem writeLoc_wf (h : Memory.wf s.ram = true) (hl : ∀ a, l = .ram a → Memory.isRam a = true) :
    Memory.wf (writeLoc l v s).ram = true := by
  cases l <;> first | exact h | exact Memory.wf_write h (hl _ rfl) v

/-- A write reads back in RAM, and leaves every other byte (R41, R77). -/
theorem writeLoc_read (h : Memory.wf s.ram = true) (a : Nat) :
    Memory.read (writeLoc l v s).ram a = if l = .ram a then v else Memory.read s.ram a := by
  by_cases hl : ∃ b, l = .ram b
  · obtain ⟨b, rfl⟩ := hl
    by_cases hb : b = a
    · subst hb
      rw [if_pos rfl]
      exact Memory.read_write_same (Memory.wf_rising h) b v
    · have hne : Loc.ram b ≠ .ram a := fun e => hb (by injection e)
      rw [if_neg hne]
      exact Memory.read_write_other (fun e => hb e.symm) s.ram v
  · have hne : l ≠ .ram a := fun e => hl ⟨a, e⟩
    rw [writeLoc_ram l v s (fun b e => hl ⟨b, e⟩), if_neg hne]

end

/-! ### The forms: what each answers -/

theorem withOperand_eq_next {m : OperandAddr} {s t : State} {k : Byte → State → State} :
    withOperand m s k = .next t ↔ accessible m s = true ∧ t = k (operand m s) (afterRead m s) := by
  unfold withOperand
  by_cases ha : accessible m s = true <;> simp [ha, eq_comm]

theorem storing_eq_next {m : OperandAddr} {v : Byte} {s t : State} :
    storing m v s = .next t ↔ accessible m s = true ∧ t = writeLoc (locate m s) v s := by
  unfold storing
  by_cases ha : accessible m s = true <;> simp [ha, eq_comm]

theorem modifying_eq_next {m : OperandAddr} {f : Byte → Byte} {s t : State} :
    modifying m f s = .next t ↔
      accessible m s = true ∧ t = writeLoc (locate m s) (f (operand m s)) (afterRead m s) := by
  unfold modifying
  by_cases ha : accessible m s = true <;> simp [ha, eq_comm]

theorem modifyingFlags_eq_next {m : OperandAddr} {f : Byte → Byte} {g : Byte → Status} {s t : State} :
    modifyingFlags m f g s = .next t ↔ accessible m s = true ∧ locate m s ≠ .status ∧
      t = (writeLoc (locate m s) (f (operand m s)) (afterRead m s)).setStatus (g (operand m s)) := by
  unfold modifyingFlags
  by_cases ha : accessible m s = true <;> by_cases hl : locate m s = .status <;> simp [ha, hl, eq_comm]

theorem modifyingSkip_eq_next {m : OperandAddr} {f : Byte → Byte} {s t : State} :
    modifyingSkip m f s = .next t ↔ accessible m s = true ∧ locate m s ≠ .pcl ∧
      t = (writeLoc (locate m s) (f (operand m s)) (afterRead m s)).skipIf (decide (f (operand m s) = 0)) := by
  unfold modifyingSkip
  by_cases ha : accessible m s = true <;> by_cases hl : locate m s = .pcl <;> simp [ha, hl, eq_comm]

end Sys2Proof.Machine
end

