-- ==== Sys2Proof/Laws/Exec.lean ====
section
/-! SUPPORT. `exec` arm by arm, and the forms on an operand that can be accessed: what a proof about one instruction rewrites with. -/

namespace Sys2Proof.Machine

/-! ### The arms -/

@[simp] theorem exec_addAM (m : OperandAddr) (s : State) : exec (.addAM m) s = execAddAM m s := rfl
@[simp] theorem exec_addmAM (m : OperandAddr) (s : State) : exec (.addmAM m) s = execAddmAM m s := rfl
@[simp] theorem exec_addAx (x : Byte) (s : State) : exec (.addAx x) s = execAddAx x s := rfl
@[simp] theorem exec_adcAM (m : OperandAddr) (s : State) : exec (.adcAM m) s = execAdcAM m s := rfl
@[simp] theorem exec_adcmAM (m : OperandAddr) (s : State) : exec (.adcmAM m) s = execAdcmAM m s := rfl
@[simp] theorem exec_subAx (x : Byte) (s : State) : exec (.subAx x) s = execSubAx x s := rfl
@[simp] theorem exec_subAM (m : OperandAddr) (s : State) : exec (.subAM m) s = execSubAM m s := rfl
@[simp] theorem exec_submAM (m : OperandAddr) (s : State) : exec (.submAM m) s = execSubmAM m s := rfl
@[simp] theorem exec_sbcAM (m : OperandAddr) (s : State) : exec (.sbcAM m) s = execSbcAM m s := rfl
@[simp] theorem exec_sbcmAM (m : OperandAddr) (s : State) : exec (.sbcmAM m) s = execSbcmAM m s := rfl
@[simp] theorem exec_andAM (m : OperandAddr) (s : State) : exec (.andAM m) s = execAndAM m s := rfl
@[simp] theorem exec_orAM (m : OperandAddr) (s : State) : exec (.orAM m) s = execOrAM m s := rfl
@[simp] theorem exec_xorAM (m : OperandAddr) (s : State) : exec (.xorAM m) s = execXorAM m s := rfl
@[simp] theorem exec_andmAM (m : OperandAddr) (s : State) : exec (.andmAM m) s = execAndmAM m s := rfl
@[simp] theorem exec_ormAM (m : OperandAddr) (s : State) : exec (.ormAM m) s = execOrmAM m s := rfl
@[simp] theorem exec_xormAM (m : OperandAddr) (s : State) : exec (.xormAM m) s = execXormAM m s := rfl
@[simp] theorem exec_andAx (x : Byte) (s : State) : exec (.andAx x) s = execAndAx x s := rfl
@[simp] theorem exec_orAx (x : Byte) (s : State) : exec (.orAx x) s = execOrAx x s := rfl
@[simp] theorem exec_xorAx (x : Byte) (s : State) : exec (.xorAx x) s = execXorAx x s := rfl
@[simp] theorem exec_cplM (m : OperandAddr) (s : State) : exec (.cplM m) s = execCplM m s := rfl
@[simp] theorem exec_cplaM (m : OperandAddr) (s : State) : exec (.cplaM m) s = execCplaM m s := rfl
@[simp] theorem exec_incaM (m : OperandAddr) (s : State) : exec (.incaM m) s = execIncaM m s := rfl
@[simp] theorem exec_incM (m : OperandAddr) (s : State) : exec (.incM m) s = execIncM m s := rfl
@[simp] theorem exec_decaM (m : OperandAddr) (s : State) : exec (.decaM m) s = execDecaM m s := rfl
@[simp] theorem exec_decM (m : OperandAddr) (s : State) : exec (.decM m) s = execDecM m s := rfl
@[simp] theorem exec_rraM (m : OperandAddr) (s : State) : exec (.rraM m) s = execRraM m s := rfl
@[simp] theorem exec_rrM (m : OperandAddr) (s : State) : exec (.rrM m) s = execRrM m s := rfl
@[simp] theorem exec_rrcaM (m : OperandAddr) (s : State) : exec (.rrcaM m) s = execRrcaM m s := rfl
@[simp] theorem exec_rrcM (m : OperandAddr) (s : State) : exec (.rrcM m) s = execRrcM m s := rfl
@[simp] theorem exec_rlaM (m : OperandAddr) (s : State) : exec (.rlaM m) s = execRlaM m s := rfl
@[simp] theorem exec_rlM (m : OperandAddr) (s : State) : exec (.rlM m) s = execRlM m s := rfl
@[simp] theorem exec_rlcaM (m : OperandAddr) (s : State) : exec (.rlcaM m) s = execRlcaM m s := rfl
@[simp] theorem exec_rlcM (m : OperandAddr) (s : State) : exec (.rlcM m) s = execRlcM m s := rfl
@[simp] theorem exec_movAM (m : OperandAddr) (s : State) : exec (.movAM m) s = execMovAM m s := rfl
@[simp] theorem exec_movMA (m : OperandAddr) (s : State) : exec (.movMA m) s = execMovMA m s := rfl
@[simp] theorem exec_movAx (x : Byte) (s : State) : exec (.movAx x) s = execMovAx x s := rfl
@[simp] theorem exec_clrMi (m : OperandAddr) (b : BitIndex) (s : State) : exec (.clrMi m b) s = execClrMi m b s := rfl
@[simp] theorem exec_setMi (m : OperandAddr) (b : BitIndex) (s : State) : exec (.setMi m b) s = execSetMi m b s := rfl
@[simp] theorem exec_jmp (addr : ProgAddr) (s : State) : exec (.jmp addr) s = execJmp addr s := rfl
@[simp] theorem exec_szM (m : OperandAddr) (s : State) : exec (.szM m) s = execSzM m s := rfl
@[simp] theorem exec_szaM (m : OperandAddr) (s : State) : exec (.szaM m) s = execSzaM m s := rfl
@[simp] theorem exec_szMi (m : OperandAddr) (b : BitIndex) (s : State) : exec (.szMi m b) s = execSzMi m b s := rfl
@[simp] theorem exec_snzMi (m : OperandAddr) (b : BitIndex) (s : State) : exec (.snzMi m b) s = execSnzMi m b s := rfl
@[simp] theorem exec_sizM (m : OperandAddr) (s : State) : exec (.sizM m) s = execSizM m s := rfl
@[simp] theorem exec_sdzM (m : OperandAddr) (s : State) : exec (.sdzM m) s = execSdzM m s := rfl
@[simp] theorem exec_sizaM (m : OperandAddr) (s : State) : exec (.sizaM m) s = execSizaM m s := rfl
@[simp] theorem exec_sdzaM (m : OperandAddr) (s : State) : exec (.sdzaM m) s = execSdzaM m s := rfl
@[simp] theorem exec_call (addr : ProgAddr) (s : State) : exec (.call addr) s = execCall addr s := rfl
@[simp] theorem exec_ret (s : State) : exec .ret s = execRet s := rfl
@[simp] theorem exec_retAx (x : Byte) (s : State) : exec (.retAx x) s = execRetAx x s := rfl
@[simp] theorem exec_reti (s : State) : exec .reti s = execReti s := rfl
@[simp] theorem exec_nop (s : State) : exec .nop s = execNop s := rfl
@[simp] theorem exec_clrM (m : OperandAddr) (s : State) : exec (.clrM m) s = execClrM m s := rfl
@[simp] theorem exec_setM (m : OperandAddr) (s : State) : exec (.setM m) s = execSetM m s := rfl
@[simp] theorem exec_clrWdt (s : State) : exec .clrWdt s = execClrWdt s := rfl
@[simp] theorem exec_halt (s : State) : exec .halt s = execHalt s := rfl

/-! ### The forms, where the operand can be accessed -/

section
variable {m : OperandAddr} {s : State}

theorem withOperand_next (h : accessible m s = true) (k : Byte → State → State) :
    withOperand m s k = .next (k (operand m s) (afterRead m s)) := by
  rw [withOperand, if_pos h]

theorem storing_next (h : accessible m s = true) (v : Byte) : storing m v s = .next (writeLoc (locate m s) v s) := by
  rw [storing, if_pos h]

theorem modifying_next (h : accessible m s = true) (f : Byte → Byte) :
    modifying m f s = .next (writeLoc (locate m s) (f (operand m s)) (afterRead m s)) := by
  rw [modifying, if_pos h]

theorem modifyingFlags_next (h : accessible m s = true) (hl : locate m s ≠ .status) (f : Byte → Byte) (g : Byte → Status) :
    modifyingFlags m f g s =
      .next ((writeLoc (locate m s) (f (operand m s)) (afterRead m s)).setStatus (g (operand m s))) := by
  rw [modifyingFlags, if_neg (by rw [h]; decide), if_neg hl]

theorem modifyingFlags_status (hl : locate m s = .status) (f : Byte → Byte) (g : Byte → Status) :
    modifyingFlags m f g s = .refused .statusFlagClash := by
  rw [modifyingFlags, if_neg (by rw [accessible, hl]; decide), if_pos hl]

theorem modifyingSkip_next (h : accessible m s = true) (hl : locate m s ≠ .pcl) (f : Byte → Byte) :
    modifyingSkip m f s =
      .next ((writeLoc (locate m s) (f (operand m s)) (afterRead m s)).skipIf (decide (f (operand m s) = 0))) := by
  rw [modifyingSkip, if_neg (by rw [h]; decide), if_neg hl]

theorem modifyingSkip_pcl (hl : locate m s = .pcl) (f : Byte → Byte) : modifyingSkip m f s = .refused .skipOnPCL := by
  rw [modifyingSkip, if_neg (by rw [accessible, hl]; decide), if_pos hl]

end

end Sys2Proof.Machine
end

