-- ==== Sys2Proof/Laws/PerInstr.lean ====
section
/-! SUPPORT. One lemma per instruction. TableRow: the word of an instruction lies in the row of spec/opcode_table.json it stands for: under
the row's mask it is the row's match. -/

namespace Sys2Proof.Laws.TableRow

/-- The mask of a row: format M fixes bits 13 to 6, I bits 13 to 8, A bits 13 to 9, B bits 13 to 10 and 6, Z all (R103). -/
def rowMask : Instr → CodeWord
  | .addAM _ => 0x3FC0#14
  | .addmAM _ => 0x3FC0#14
  | .addAx _ => 0x3F00#14
  | .adcAM _ => 0x3FC0#14
  | .adcmAM _ => 0x3FC0#14
  | .subAx _ => 0x3F00#14
  | .subAM _ => 0x3FC0#14
  | .submAM _ => 0x3FC0#14
  | .sbcAM _ => 0x3FC0#14
  | .sbcmAM _ => 0x3FC0#14
  | .andAM _ => 0x3FC0#14
  | .orAM _ => 0x3FC0#14
  | .xorAM _ => 0x3FC0#14
  | .andmAM _ => 0x3FC0#14
  | .ormAM _ => 0x3FC0#14
  | .xormAM _ => 0x3FC0#14
  | .andAx _ => 0x3F00#14
  | .orAx _ => 0x3F00#14
  | .xorAx _ => 0x3F00#14
  | .cplM _ => 0x3FC0#14
  | .cplaM _ => 0x3FC0#14
  | .incaM _ => 0x3FC0#14
  | .incM _ => 0x3FC0#14
  | .decaM _ => 0x3FC0#14
  | .decM _ => 0x3FC0#14
  | .rraM _ => 0x3FC0#14
  | .rrM _ => 0x3FC0#14
  | .rrcaM _ => 0x3FC0#14
  | .rrcM _ => 0x3FC0#14
  | .rlaM _ => 0x3FC0#14
  | .rlM _ => 0x3FC0#14
  | .rlcaM _ => 0x3FC0#14
  | .rlcM _ => 0x3FC0#14
  | .movAM _ => 0x3FC0#14
  | .movMA _ => 0x3FC0#14
  | .movAx _ => 0x3F00#14
  | .clrMi _ _ => 0x3C40#14
  | .setMi _ _ => 0x3C40#14
  | .jmp _ => 0x3E00#14
  | .szM _ => 0x3FC0#14
  | .szaM _ => 0x3FC0#14
  | .szMi _ _ => 0x3C40#14
  | .snzMi _ _ => 0x3C40#14
  | .sizM _ => 0x3FC0#14
  | .sdzM _ => 0x3FC0#14
  | .sizaM _ => 0x3FC0#14
  | .sdzaM _ => 0x3FC0#14
  | .call _ => 0x3E00#14
  | .ret => 0x3FFF#14
  | .retAx _ => 0x3F00#14
  | .reti => 0x3FFF#14
  | .nop => 0x3FFF#14
  | .clrM _ => 0x3FC0#14
  | .setM _ => 0x3FC0#14
  | .clrWdt => 0x3FFF#14
  | .halt => 0x3FFF#14

/-- The match of a row: the word with every field zero (R104, column "hex"). -/
def rowMatch : Instr → CodeWord
  | .addAM _ => 0x0300#14
  | .addmAM _ => 0x0380#14
  | .addAx _ => 0x0B00#14
  | .adcAM _ => 0x1300#14
  | .adcmAM _ => 0x1380#14
  | .subAx _ => 0x0A00#14
  | .subAM _ => 0x0200#14
  | .submAM _ => 0x0280#14
  | .sbcAM _ => 0x1200#14
  | .sbcmAM _ => 0x1280#14
  | .andAM _ => 0x0600#14
  | .orAM _ => 0x0500#14
  | .xorAM _ => 0x0400#14
  | .andmAM _ => 0x0680#14
  | .ormAM _ => 0x0580#14
  | .xormAM _ => 0x0480#14
  | .andAx _ => 0x0E00#14
  | .orAx _ => 0x0D00#14
  | .xorAx _ => 0x0C00#14
  | .cplM _ => 0x0180#14
  | .cplaM _ => 0x0100#14
  | .incaM _ => 0x1400#14
  | .incM _ => 0x1480#14
  | .decaM _ => 0x1500#14
  | .decM _ => 0x1580#14
  | .rraM _ => 0x1900#14
  | .rrM _ => 0x1980#14
  | .rrcaM _ => 0x1B00#14
  | .rrcM _ => 0x1B80#14
  | .rlaM _ => 0x1800#14
  | .rlM _ => 0x1880#14
  | .rlcaM _ => 0x1A00#14
  | .rlcM _ => 0x1A80#14
  | .movAM _ => 0x0700#14
  | .movMA _ => 0x0080#14
  | .movAx _ => 0x0F00#14
  | .clrMi _ _ => 0x3400#14
  | .setMi _ _ => 0x3000#14
  | .jmp _ => 0x2800#14
  | .szM _ => 0x1080#14
  | .szaM _ => 0x1000#14
  | .szMi _ _ => 0x3C00#14
  | .snzMi _ _ => 0x3800#14
  | .sizM _ => 0x1680#14
  | .sdzM _ => 0x1780#14
  | .sizaM _ => 0x1600#14
  | .sdzaM _ => 0x1700#14
  | .call _ => 0x2000#14
  | .ret => 0x0003#14
  | .retAx _ => 0x0900#14
  | .reti => 0x0004#14
  | .nop => 0x0000#14
  | .clrM _ => 0x1F00#14
  | .setM _ => 0x1F80#14
  | .clrWdt => 0x0001#14
  | .halt => 0x0002#14

/-- The word of the instruction is a word of its row. -/
def Statement (i : Instr) : Prop := encode i &&& rowMask i = rowMatch i

/-- Format M, bit by bit (R103). -/
theorem wordM_getLsbD (op : BitVec 7) (m : OperandAddr) (k : Nat) :
    (wordM op m).getLsbD k = if k < 6 then m.getLsbD k else if k < 7 then false else op.getLsbD (k - 7) := by
  have h : (wordM op m).getLsbD k = ((op ++ 0#1) ++ m).getLsbD k := rfl
  rw [h, BitVec.getLsbD_append, BitVec.getLsbD_append]
  split
  · rfl
  · split
    · rw [if_pos (by omega)]; simp
    · rw [if_neg (by omega)]; congr 1

/-- Format I, bit by bit (R103). -/
theorem wordI_getLsbD (op : BitVec 6) (x : Byte) (k : Nat) :
    (wordI op x).getLsbD k = if k < 8 then x.getLsbD k else op.getLsbD (k - 8) := by
  have h : (wordI op x).getLsbD k = (op ++ x).getLsbD k := rfl
  rw [h, BitVec.getLsbD_append]

/-- Format A, bit by bit (R103). -/
theorem wordA_getLsbD (op : BitVec 3) (addr : ProgAddr) (k : Nat) :
    (wordA op addr).getLsbD k = if k < 9 then addr.getLsbD k else if k < 11 then false else op.getLsbD (k - 11) := by
  have h : (wordA op addr).getLsbD k = ((op ++ 0#2) ++ addr).getLsbD k := rfl
  rw [h, BitVec.getLsbD_append, BitVec.getLsbD_append]
  split
  · rfl
  · split
    · rw [if_pos (by omega)]; simp
    · rw [if_neg (by omega)]; congr 1

/-- Format B, bit by bit (R103). -/
theorem wordB_getLsbD (op : BitVec 4) (i : BitIndex) (m : OperandAddr) (k : Nat) :
    (wordB op i m).getLsbD k = if k < 6 then m.getLsbD k else if k < 7 then false
      else if k < 10 then i.getLsbD (k - 7) else op.getLsbD (k - 10) := by
  have h : (wordB op i m).getLsbD k = (((op ++ i) ++ 0#1) ++ m).getLsbD k := rfl
  rw [h, BitVec.getLsbD_append, BitVec.getLsbD_append, BitVec.getLsbD_append]
  split_ifs <;> first | omega | simp | (congr 1)


/-- Format M's fixed bits do not depend on m. -/
theorem wordM_masked (op : BitVec 7) (m : OperandAddr) : wordM op m &&& 0x3FC0#14 = wordM op 0 := by
  refine BitVec.eq_of_getLsbD_eq fun k hk => ?_
  rw [BitVec.getLsbD_and, wordM_getLsbD, wordM_getLsbD]
  interval_cases k <;> simp

/-- Format I's fixed bits do not depend on x. -/
theorem wordI_masked (op : BitVec 6) (x : Byte) : wordI op x &&& 0x3F00#14 = wordI op 0 := by
  refine BitVec.eq_of_getLsbD_eq fun k hk => ?_
  rw [BitVec.getLsbD_and, wordI_getLsbD, wordI_getLsbD]
  interval_cases k <;> simp

/-- Format A's fixed bits do not depend on addr. -/
theorem wordA_masked (op : BitVec 3) (addr : ProgAddr) : wordA op addr &&& 0x3E00#14 = wordA op 0 := by
  refine BitVec.eq_of_getLsbD_eq fun k hk => ?_
  rw [BitVec.getLsbD_and, wordA_getLsbD, wordA_getLsbD]
  interval_cases k <;> simp

/-- Format B's fixed bits do not depend on i and m. -/
theorem wordB_masked (op : BitVec 4) (i : BitIndex) (m : OperandAddr) : wordB op i m &&& 0x3C40#14 = wordB op 0 0 := by
  refine BitVec.eq_of_getLsbD_eq fun k hk => ?_
  rw [BitVec.getLsbD_and, wordB_getLsbD, wordB_getLsbD]
  interval_cases k <;> simp

theorem addAM (m : OperandAddr) : Statement (.addAM m) := wordM_masked _ m

theorem addmAM (m : OperandAddr) : Statement (.addmAM m) := wordM_masked _ m

theorem addAx (x : Byte) : Statement (.addAx x) := wordI_masked _ x

theorem adcAM (m : OperandAddr) : Statement (.adcAM m) := wordM_masked _ m

theorem adcmAM (m : OperandAddr) : Statement (.adcmAM m) := wordM_masked _ m

theorem subAx (x : Byte) : Statement (.subAx x) := wordI_masked _ x

theorem subAM (m : OperandAddr) : Statement (.subAM m) := wordM_masked _ m

theorem submAM (m : OperandAddr) : Statement (.submAM m) := wordM_masked _ m

theorem sbcAM (m : OperandAddr) : Statement (.sbcAM m) := wordM_masked _ m

theorem sbcmAM (m : OperandAddr) : Statement (.sbcmAM m) := wordM_masked _ m

theorem andAM (m : OperandAddr) : Statement (.andAM m) := wordM_masked _ m

theorem orAM (m : OperandAddr) : Statement (.orAM m) := wordM_masked _ m

theorem xorAM (m : OperandAddr) : Statement (.xorAM m) := wordM_masked _ m

theorem andmAM (m : OperandAddr) : Statement (.andmAM m) := wordM_masked _ m

theorem ormAM (m : OperandAddr) : Statement (.ormAM m) := wordM_masked _ m

theorem xormAM (m : OperandAddr) : Statement (.xormAM m) := wordM_masked _ m

theorem andAx (x : Byte) : Statement (.andAx x) := wordI_masked _ x

theorem orAx (x : Byte) : Statement (.orAx x) := wordI_masked _ x

theorem xorAx (x : Byte) : Statement (.xorAx x) := wordI_masked _ x

theorem cplM (m : OperandAddr) : Statement (.cplM m) := wordM_masked _ m

theorem cplaM (m : OperandAddr) : Statement (.cplaM m) := wordM_masked _ m

theorem incaM (m : OperandAddr) : Statement (.incaM m) := wordM_masked _ m

theorem incM (m : OperandAddr) : Statement (.incM m) := wordM_masked _ m

theorem decaM (m : OperandAddr) : Statement (.decaM m) := wordM_masked _ m

theorem decM (m : OperandAddr) : Statement (.decM m) := wordM_masked _ m

theorem rraM (m : OperandAddr) : Statement (.rraM m) := wordM_masked _ m

theorem rrM (m : OperandAddr) : Statement (.rrM m) := wordM_masked _ m

theorem rrcaM (m : OperandAddr) : Statement (.rrcaM m) := wordM_masked _ m

theorem rrcM (m : OperandAddr) : Statement (.rrcM m) := wordM_masked _ m

theorem rlaM (m : OperandAddr) : Statement (.rlaM m) := wordM_masked _ m

theorem rlM (m : OperandAddr) : Statement (.rlM m) := wordM_masked _ m

theorem rlcaM (m : OperandAddr) : Statement (.rlcaM m) := wordM_masked _ m

theorem rlcM (m : OperandAddr) : Statement (.rlcM m) := wordM_masked _ m

theorem movAM (m : OperandAddr) : Statement (.movAM m) := wordM_masked _ m

theorem movMA (m : OperandAddr) : Statement (.movMA m) := wordM_masked _ m

theorem movAx (x : Byte) : Statement (.movAx x) := wordI_masked _ x

theorem clrMi (m : OperandAddr) (i : BitIndex) : Statement (.clrMi m i) := wordB_masked _ i m

theorem setMi (m : OperandAddr) (i : BitIndex) : Statement (.setMi m i) := wordB_masked _ i m

theorem jmp (addr : ProgAddr) : Statement (.jmp addr) := wordA_masked _ addr

theorem szM (m : OperandAddr) : Statement (.szM m) := wordM_masked _ m

theorem szaM (m : OperandAddr) : Statement (.szaM m) := wordM_masked _ m

theorem szMi (m : OperandAddr) (i : BitIndex) : Statement (.szMi m i) := wordB_masked _ i m

theorem snzMi (m : OperandAddr) (i : BitIndex) : Statement (.snzMi m i) := wordB_masked _ i m

theorem sizM (m : OperandAddr) : Statement (.sizM m) := wordM_masked _ m

theorem sdzM (m : OperandAddr) : Statement (.sdzM m) := wordM_masked _ m

theorem sizaM (m : OperandAddr) : Statement (.sizaM m) := wordM_masked _ m

theorem sdzaM (m : OperandAddr) : Statement (.sdzaM m) := wordM_masked _ m

theorem call (addr : ProgAddr) : Statement (.call addr) := wordA_masked _ addr

theorem ret : Statement (.ret) := rfl

theorem retAx (x : Byte) : Statement (.retAx x) := wordI_masked _ x

theorem reti : Statement (.reti) := rfl

theorem nop : Statement (.nop) := rfl

theorem clrM (m : OperandAddr) : Statement (.clrM m) := wordM_masked _ m

theorem setM (m : OperandAddr) : Statement (.setM m) := wordM_masked _ m

theorem clrWdt : Statement (.clrWdt) := rfl

theorem halt : Statement (.halt) := rfl

end Sys2Proof.Laws.TableRow
end

