-- ==== Sys2Proof/Laws/Peripherals.lean ====
section
/-! SUPPORT. What each operation of the peripherals, the resets and the step can do, said once. -/

namespace Sys2Proof.Machine

/-! ### The step, turn by turn -/

section
variable {s : State} {rest : List Turn} {e : Event}

theorem step_nil (h : s.env = []) : step s = coreTurn decode s := by
  unfold step stepWith
  rw [h]

theorem step_core (h : s.env = .core :: rest) : step s = coreTurn decode (s.setEnv rest) := by
  unfold step stepWith
  rw [h]

theorem step_event (h : s.env = .event e :: rest) : step s = applyEvent e (s.setEnv rest) := by
  unfold step stepWith
  rw [h]

/-- The core's turn, written in the schedule or because it is empty (log 7). -/
theorem step_coreNext (h : s.coreNext rest) : step s = coreTurn decode (s.setEnv rest) := by
  rcases h with ⟨h, rfl⟩ | h
  · rw [step_nil h]
    exact congrArg _ (h ▸ rfl)
  · exact step_core h

/-- Every step is the core's turn or an event (log 7). -/
theorem step_cases (s : State) :
    (∃ v, step s = coreTurn decode (s.setEnv v)) ∨ (∃ e v, s.env = .event e :: v ∧ step s = applyEvent e (s.setEnv v)) := by
  rcases h : s.env with _ | ⟨_ | e, v⟩
  · exact .inl ⟨s.env, step_nil h⟩
  · exact .inl ⟨v, step_core h⟩
  · exact .inr ⟨e, v, rfl, step_event h⟩

end

/-- The core's turn, in its four cases (R247, R249, R250, R303). -/
theorem coreTurn_cases (dec : CodeWord → Option Instr) (s : State) :
    ((s.pins.res = false ∨ s.halted = true) ∧ coreTurn dec s = .next s) ∨
    (∃ src, s.pins.res = true ∧ s.halted = false ∧ s.acceptable src = true ∧
      coreTurn dec s = .next (interruptEntry src s)) ∨
    (s.pins.res = true ∧ s.halted = false ∧ s.acceptable .external = false ∧ s.acceptable .timer = false ∧
      coreTurn dec s = runInstr dec s) := by
  unfold coreTurn
  cases hr : s.pins.res
  · exact .inl ⟨.inl rfl, rfl⟩
  cases hh : s.halted
  · refine .inr ?_
    cases h1 : s.acceptable .external
    · cases h2 : s.acceptable .timer
      · exact .inr ⟨rfl, rfl, rfl, rfl, rfl⟩
      · exact .inl ⟨.timer, rfl, rfl, h2, rfl⟩
    · exact .inl ⟨.external, rfl, rfl, h1, rfl⟩
  · exact .inl ⟨.inr rfl, rfl⟩

/-- `fetch, decode, execute` answers a next state only through the meaning of what it decoded (R120). -/
theorem runInstr_eq_next {dec : CodeWord → Option Instr} {s t : State} :
    runInstr dec s = .next t ↔ ∃ i, dec (fetch s s.pc) = some i ∧ exec i s.begin = .next t := by
  unfold runInstr
  cases h : dec (fetch s s.pc) <;> simp

/-! ### Requests and wake-up -/

/-- What setting request flags changes: INTC, and with a wake-up the halt and the cycles (R242, R243, R253). -/
theorem raiseRequests_eq (eif tf : Bool) (s : State) :
    raiseRequests eif tf s = { s with
      intc := { s.intc with eif := s.intc.eif || eif, tf := s.intc.tf || tf },
      halted := s.halted && !((eif && !s.intc.eif) || (tf && !s.intc.tf)),
      cycles := (raiseRequests eif tf s).cycles } := by
  by_cases h : (s.halted && ((eif && !s.intc.eif) || (tf && !s.intc.tf))) = true
  · have hb : (s.halted && !((eif && !s.intc.eif) || (tf && !s.intc.tf))) = false := by
      rw [Bool.and_eq_true] at h
      rw [h.2, Bool.not_true, Bool.and_false]
    rw [hb]
    unfold raiseRequests State.wakeByRequest
    dsimp only
    rw [if_pos h]
    split <;> rfl
  · have hb : (s.halted && !((eif && !s.intc.eif) || (tf && !s.intc.tf))) = s.halted := by
      cases hh : s.halted
      · rfl
      · rw [hh, Bool.true_and, Bool.not_eq_true] at h
        rw [h]
        rfl
    rw [hb]
    unfold raiseRequests
    dsimp only
    rw [if_neg h]
    rfl

/-- While the core runs no request wakes anything. -/
theorem raiseRequests_running {s : State} (h : s.halted = false) (eif tf : Bool) :
    raiseRequests eif tf s = { s with intc := { s.intc with eif := s.intc.eif || eif, tf := s.intc.tf || tf } } := by
  unfold raiseRequests
  dsimp only
  rw [if_neg (by rw [h, Bool.false_and]; decide)]
  rfl

/-- What setting request flags does to a halted core: it wakes exactly when one of them rises, after the start-up delay, with one cycle more
where that leads to an interrupt (R251, R253). -/
theorem raiseRequests_halted {s : State} (h : s.halted = true) (eif tf : Bool) :
    raiseRequests eif tf s =
      let t := s.setIntc { s.intc with eif := s.intc.eif || eif, tf := s.intc.tf || tf }
      if (eif && !s.intc.eif) || (tf && !s.intc.tf) then
        (t.setHalted false).setCycles
          (s.cycles + Config.sstCycles + (if t.acceptable .external || t.acceptable .timer then 1 else 0))
      else t := by
  unfold raiseRequests State.wakeByRequest
  dsimp only
  rw [h, Bool.true_and]
  split
  · split <;> rfl
  · rfl

/-! ### The timer -/

/-- One active clock changes TMR, the window and the count of free values (R270, R271). -/
theorem State.count_eq (s : State) :
    s.count = { s with
      tmr := if s.losesCount then s.tmr else s.tmr + 1, tmrRead := false,
      draws := if s.tmrRead then s.draws + 1 else s.draws } := by
  unfold State.count State.closeWindow
  by_cases h : s.tmrRead = true
  · rw [if_pos h, if_pos h]
    split <;> rfl
  · rw [if_neg h, if_neg h]
    rw [← Bool.eq_false_iff.mpr h]
    split <;> rfl

/-- With no read of TMR under way an active clock counts, modulo 256 (R270, D15). -/
theorem State.count_of_no_read {s : State} (h : s.tmrRead = false) :
    s.count = { s with tmr := BitVec.ofNat 8 (s.tmr.toNat + 1) } := by
  have hi : s.tmr + 1 = BitVec.ofNat 8 (s.tmr.toNat + 1) := BitVec.eq_of_toNat_eq (by simp [BitVec.toNat_add])
  rw [State.count_eq, State.losesCount, h, Bool.false_and, hi]
  simp [← h]

/-- With no read of TMR under way the counter overflows from 255 and only from there (R270). -/
theorem State.overflows_of_no_read {s : State} (h : s.tmrRead = false) : s.overflows = decide (s.tmr.toNat = 255) := by
  rw [State.overflows, State.losesCount, h, Bool.false_and, Bool.not_false, Bool.true_and, decide_eq_decide, BitVec.toNat_eq]
  rfl

/-- A clock of a timer that is on in timer mode (R268, R270). -/
theorem timerClock_counting {s : State} (hn : s.tmrc.ton = true) (h1 : s.tmrc.tm1 = true) (h0 : s.tmrc.tm0 = false) :
    timerClock s = .next (raiseRequests false s.overflows s.count) := by
  unfold timerClock Tmrc.mode
  simp only [hn, h1, h0]
  rfl

/-- A clock of a timer that is off, or counts external events (R268, R270). -/
theorem timerClock_idle {s : State} (h : s.tmrc.ton = false ∨ (s.tmrc.tm1 = false ∧ s.tmrc.tm0 = true)) :
    timerClock s = .next s := by
  unfold timerClock Tmrc.mode
  rcases h with hn | ⟨h1, h0⟩
  · rw [hn]
    rfl
  · rw [h1, h0]
    cases s.tmrc.ton <;> rfl

/-- A clock of a timer that is on in an unused mode (R269, D14). -/
theorem timerClock_unused {s : State} (hn : s.tmrc.ton = true) (h : s.tmrc.tm1 = s.tmrc.tm0) :
    timerClock s = .refused .timerModeUnused := by
  unfold timerClock Tmrc.mode
  rw [hn, h]
  cases s.tmrc.tm0 <;> rfl

/-- A tick of the timer's clock: refused in an unused mode with TON = 1, else counted in timer mode with TON = 1, else nothing (R268 to R270). -/
theorem timerClock_cases (s : State) :
    timerClock s = .next s ∨ (s.tmrc.ton = true ∧ timerClock s = .next (raiseRequests false s.overflows s.count)) ∨
    (s.tmrc.ton = true ∧ timerClock s = .refused .timerModeUnused) := by
  unfold timerClock
  cases h : s.tmrc.ton
  · exact .inl rfl
  · cases s.tmrc.mode
    · exact .inl rfl
    · exact .inr (.inl ⟨rfl, rfl⟩)
    · exact .inr (.inr ⟨rfl, rfl⟩)

/-- An edge on the INT/TMR pad: a request, a count and a request, or a refusal (R242, R268). -/
theorem padEdge_cases (falling : Bool) (s : State) :
    padEdge falling s = .next (raiseRequests falling false s) ∨
    (s.tmrc.ton = true ∧ padEdge falling s = .next (raiseRequests falling s.overflows s.count)) ∨
    (s.tmrc.ton = true ∧ padEdge falling s = .refused .timerModeUnused) := by
  unfold padEdge
  by_cases h : (s.tmrc.ton && (s.tmrc.te == falling)) = true
  · rw [if_pos h]
    rw [Bool.and_eq_true] at h
    cases s.tmrc.mode
    · exact .inr (.inl ⟨h.1, rfl⟩)
    · exact .inl rfl
    · exact .inr (.inr ⟨h.1, rfl⟩)
  · rw [if_neg h]
    exact .inl rfl

/-! ### The watchdog -/

/-- One tick of the watchdog's tap: a count, a chip reset, or the warm reset (R260, R262, R254). -/
theorem wdtClock_cases (s : State) :
    (s.wdt3 ≠ 7#3 ∧ wdtClock s = s.setWdt3 (s.wdt3 + 1)) ∨
    (s.wdt3 = 7#3 ∧ s.halted = false ∧ wdtClock s = s.wdtReset) ∨
    (s.wdt3 = 7#3 ∧ s.halted = true ∧ wdtClock s = s.warmReset) := by
  unfold wdtClock wdtTimeout
  by_cases h : s.wdt3 = 7#3
  · rw [if_pos h]
    cases hh : s.halted
    · exact .inr (.inl ⟨h, rfl, rfl⟩)
    · exact .inr (.inr ⟨h, rfl, rfl⟩)
  · rw [if_neg h]
    exact .inl ⟨h, rfl⟩

/-- What a property of states needs to survive any tick that reaches the watchdog or the timer. -/
theorem clockBoth_induction {P : State → Prop} (hw : ∀ s, P s → P (wdtClock s))
    (ht : ∀ s t, P s → timerClock s = .next t → P t) (hd : ∀ s n, P s → P (s.setDraws n))
    {wdt tmr : Bool} {s t : State} (h : P s) (hn : clockBoth wdt tmr s = .next t) : P t := by
  cases wdt <;> cases tmr <;> simp only [clockBoth] at hn
  · cases hn
    exact h
  · exact ht _ _ h hn
  · cases hn
    exact hw _ h
  · split at hn
    · split at hn
      · split at hn
        · next u hu =>
          cases hn
          exact hw _ (ht _ _ (hd _ _ h) hu)
        · cases hn
        · cases hn
      · exact ht _ _ (hw _ (hd _ _ h)) hn
    · exact ht _ _ (hw _ h) hn

/-! ### The prescaler and its two taps -/

/-- A division by `2 ^ k` of the prescaler ticks when a period of it is complete (R260, R267). -/
theorem tapTicks_prescTick {s : State} {k : Nat} (hk : k ≤ 8) : tapTicks k s.prescTick.presc = s.tapCompletes k := by
  have hd : (s.presc.toNat + 1) % 256 % 2 ^ k = (s.presc.toNat + 1) % 2 ^ k := Nat.mod_mod_of_dvd _ (Nat.pow_dvd_pow 2 hk)
  have hp : s.prescTick.presc.toNat = (s.presc.toNat + 1) % 256 := by simp [State.prescTick, BitVec.toNat_add]
  rw [tapTicks, State.tapCompletes, hp, hd]

theorem State.wdtTapTicks_prescTick (s : State) :
    s.prescTick.wdtTapTicks = (!s.cfg.opt.wdtDisable && s.tapCompletes (s.cfg.opt.wdtDiv.toNat + 5)) := by
  rw [State.wdtTapTicks]
  exact congrArg _ (tapTicks_prescTick (by omega))

theorem State.tmrTapTicks_prescTick (s : State) : s.prescTick.tmrTapTicks = s.tapCompletes (s.cfg.opt.tmrPresc.toNat + 1) :=
  tapTicks_prescTick (by omega)

/-- One tick of the prescaler's source, in numbers. -/
theorem State.prescTick_eq (s : State) : s.prescTick = { s with presc := BitVec.ofNat 8 (s.presc.toNat + 1) } := by
  have hi : s.presc + 1 = BitVec.ofNat 8 (s.presc.toNat + 1) := BitVec.eq_of_toNat_eq (by simp [BitVec.toNat_add])
  rw [State.prescTick, hi]
  rfl

/-- Either clock, by what it feeds: the prescaler with its two taps, the timer directly, or nothing (R260, R267, R272, D32). -/
theorem clocks_eq {s : State} (hr : s.pins.res = true) {e : Event} (he : e = .instrClock ∨ e = .rcClock) :
    applyEvent e s =
      if s.feedsPrescaler e then
        clockBoth s.prescTick.wdtTapTicks
          (if s.cfg.opt.tmrSrc then s.prescTick.tmrTapTicks else decide (e = .instrClock)) s.prescTick
      else clockBoth false (!s.cfg.opt.tmrSrc && decide (e = .instrClock) && !s.halted) s := by
  rcases he with rfl | rfl
  · simp only [applyEvent, hr, instrClock, State.feedsPrescaler]
    cases s.halted <;> cases s.cfg.opt.prescSrc <;> cases s.cfg.opt.tmrSrc <;> rfl
  · simp only [applyEvent, hr, rcClock, State.feedsPrescaler]
    cases s.cfg.opt.prescSrc <;> cases s.cfg.opt.tmrSrc <;> cases s.cfg.opt.wdtDisable <;> cases s.cfg.rcoscRuns <;> rfl

/-- The instruction clock feeds nothing in halt. -/
theorem State.running_of_feedsPrescaler {s : State} (h : s.feedsPrescaler .instrClock = true) : s.halted = false := by
  cases hh : s.halted
  · rfl
  · simp [State.feedsPrescaler, hh] at h

/-- A tick that is no time-out: the watchdog counts, and the timer sees its clock (R260, R267). -/
theorem clockBoth_of_no_timeout {wdt : Bool} {s : State} (h : wdt = false ∨ s.wdt3 ≠ 7#3) (tmr : Bool) :
    clockBoth wdt tmr s =
      let t := if wdt then s.setWdt3 (s.wdt3 + 1) else s
      if tmr then timerClock t else .next t := by
  cases wdt
  · cases tmr <;> rfl
  · have hw : s.wdt3 ≠ 7#3 := h.resolve_left Bool.noConfusion
    have hc : wdtClock s = s.setWdt3 (s.wdt3 + 1) := if_neg hw
    cases tmr
    · simp only [clockBoth, hc]
      rfl
    · simp only [clockBoth, if_neg hw, hc]
      rfl

/-- A tick of either clock while RES is high: it moves the prescaler where it feeds it, and reaches the watchdog and the timer through
the taps, or the timer directly (R260, R267, R272, D32). -/
theorem step_clock {s : State} {e : Event} {rest : List Turn} (hr : s.pins.res = true) (hs : s.env = .event e :: rest)
    (he : e = .instrClock ∨ e = .rcClock) :
    step s = clockBoth (s.wdtTicks e) (s.timerTicks e)
      { s with env := rest, presc := if s.feedsPrescaler e then BitVec.ofNat 8 (s.presc.toNat + 1) else s.presc } := by
  have hw : (s.setEnv rest).prescTick.wdtTapTicks = (!s.cfg.opt.wdtDisable && s.tapCompletes (s.cfg.opt.wdtDiv.toNat + 5)) :=
    State.wdtTapTicks_prescTick _
  have ht : (s.setEnv rest).prescTick.tmrTapTicks = s.tapCompletes (s.cfg.opt.tmrPresc.toNat + 1) :=
    State.tmrTapTicks_prescTick _
  have hp : (s.setEnv rest).prescTick = { s with env := rest, presc := BitVec.ofNat 8 (s.presc.toNat + 1) } :=
    State.prescTick_eq _
  have hf : (s.setEnv rest).feedsPrescaler e = s.feedsPrescaler e := rfl
  rw [step_event hs, clocks_eq (s := s.setEnv rest) hr he, hf, hw, ht, hp]
  unfold State.wdtTicks State.timerTicks
  cases h : s.feedsPrescaler e
  · simp only [Bool.false_and, Bool.false_eq_true, if_false, State.setEnv_cfg, State.setEnv_halted]
    cases s.cfg.opt.tmrSrc <;> rfl
  · simp only [Bool.true_and, if_true, State.setEnv_cfg]
    have hi : decide (e = .instrClock) = (decide (e = .instrClock) && !s.halted) := by
      rcases he with rfl | rfl
      · rw [State.running_of_feedsPrescaler h]
        rfl
      · rfl
    rw [← hi]
    rfl

/-- A tick of either clock that is no time-out: what it does without the timer, and the timer where it is its clock (R260, R267). -/
theorem step_tick {s : State} {e : Event} {rest : List Turn} (hr : s.pins.res = true) (hs : s.env = .event e :: rest)
    (he : e = .instrClock ∨ e = .rcClock) (hn : s.wdtTimesOut e = false) :
    step s = if s.timerTicks e then timerClock (s.afterTick e rest) else .next (s.afterTick e rest) := by
  have hb : s.wdtTicks e = false ∨ s.wdt3 ≠ 7#3 := by
    rw [State.wdtTimesOut, Bool.and_eq_false_iff, decide_eq_false_iff_not] at hn
    exact hn.imp_right fun h h7 => h (by rw [h7]; rfl)
  have hi : s.wdt3 + 1 = BitVec.ofNat 3 (s.wdt3.toNat + 1) := BitVec.eq_of_toNat_eq (by simp [BitVec.toNat_add])
  rw [step_clock hr hs he, clockBoth_of_no_timeout (by exact hb)]
  unfold State.afterTick
  rw [← hi]
  cases s.wdtTicks e <;> rfl

end Sys2Proof.Machine
end

