-- ==== Sys2Proof/Tests/Slice0.lean ====
section
/-! SUPPORT. Tests and witnesses. The words of the decode tests are written out bit by bit from the encodings of spec/30_encoding.md R104 and
spec/opcode_table.json; the expected results of the step tests are the rows of spec/95_test_vectors.md, whose number each name carries. -/

namespace Sys2Proof.Tests

open Sys2Proof.Machine

/-! ### WellFormed: what it refuses -/

theorem test_wordFits_boundary : wordFits 0x3FFF = true ∧ wordFits 0x4000 = false := by decide
theorem test_addrFits_boundary : addrFits 0x1FF = true ∧ addrFits 0x200 = false := by decide
theorem test_decodeTableWord_wide : decodeTableWord 16 0x4000 = none ∧ decodeTableWord 16 0x0000 = some .nop := by decide
theorem test_promWf_refuses_wide : Memory.promWf [(0x200, 0)] = false ∧ Memory.promWf [(1, 0), (0, 0)] = false := by decide
theorem test_ramWf_refuses_bad : Memory.wf [(0x40, 1)] = false ∧ Memory.wf [(0x20, 0)] = false ∧
    Memory.wf [(0x21, 1), (0x20, 1)] = false := by decide

/-! ### Decode: one word of each instruction -/

theorem test_decode_addAM : decode 0b00001100100000#14 = some (.addAM 0x20) := by decide
theorem test_decode_addmAM : decode 0b00001110100101#14 = some (.addmAM 0x25) := by decide
theorem test_decode_addAx : decode 0b00101110000000#14 = some (.addAx 0x80) := by decide
theorem test_decode_adcAM : decode 0b01001100111111#14 = some (.adcAM 0x3F) := by decide
theorem test_decode_adcmAM : decode 0b01001110001010#14 = some (.adcmAM 0x0A) := by decide
theorem test_decode_subAx : decode 0b00101010100101#14 = some (.subAx 0xA5) := by decide
theorem test_decode_subAM : decode 0b00001000000001#14 = some (.subAM 0x01) := by decide
theorem test_decode_submAM : decode 0b00001010100000#14 = some (.submAM 0x20) := by decide
theorem test_decode_sbcAM : decode 0b01001000100101#14 = some (.sbcAM 0x25) := by decide
theorem test_decode_sbcmAM : decode 0b01001010101011#14 = some (.sbcmAM 0x2B) := by decide
theorem test_decode_andAM : decode 0b00011000111111#14 = some (.andAM 0x3F) := by decide
theorem test_decode_orAM : decode 0b00010100001010#14 = some (.orAM 0x0A) := by decide
theorem test_decode_xorAM : decode 0b00010000010011#14 = some (.xorAM 0x13) := by decide
theorem test_decode_andmAM : decode 0b00011010000001#14 = some (.andmAM 0x01) := by decide
theorem test_decode_ormAM : decode 0b00010110100000#14 = some (.ormAM 0x20) := by decide
theorem test_decode_xormAM : decode 0b00010010100101#14 = some (.xormAM 0x25) := by decide
theorem test_decode_andAx : decode 0b00111001011010#14 = some (.andAx 0x5A) := by decide
theorem test_decode_orAx : decode 0b00110110100101#14 = some (.orAx 0xA5) := by decide
theorem test_decode_xorAx : decode 0b00110010000000#14 = some (.xorAx 0x80) := by decide
theorem test_decode_cplM : decode 0b00000110010011#14 = some (.cplM 0x13) := by decide
theorem test_decode_cplaM : decode 0b00000100000001#14 = some (.cplaM 0x01) := by decide
theorem test_decode_incaM : decode 0b01010000100000#14 = some (.incaM 0x20) := by decide
theorem test_decode_incM : decode 0b01010010100101#14 = some (.incM 0x25) := by decide
theorem test_decode_decaM : decode 0b01010100101011#14 = some (.decaM 0x2B) := by decide
theorem test_decode_decM : decode 0b01010110111111#14 = some (.decM 0x3F) := by decide
theorem test_decode_rraM : decode 0b01100100001010#14 = some (.rraM 0x0A) := by decide
theorem test_decode_rrM : decode 0b01100110010011#14 = some (.rrM 0x13) := by decide
theorem test_decode_rrcaM : decode 0b01101100000001#14 = some (.rrcaM 0x01) := by decide
theorem test_decode_rrcM : decode 0b01101110100000#14 = some (.rrcM 0x20) := by decide
theorem test_decode_rlaM : decode 0b01100000100101#14 = some (.rlaM 0x25) := by decide
theorem test_decode_rlM : decode 0b01100010101011#14 = some (.rlM 0x2B) := by decide
theorem test_decode_rlcaM : decode 0b01101000111111#14 = some (.rlcaM 0x3F) := by decide
theorem test_decode_rlcM : decode 0b01101010001010#14 = some (.rlcM 0x0A) := by decide
theorem test_decode_movAM : decode 0b00011100010011#14 = some (.movAM 0x13) := by decide
theorem test_decode_movMA : decode 0b00000010000001#14 = some (.movMA 0x01) := by decide
theorem test_decode_movAx : decode 0b00111100000001#14 = some (.movAx 0x01) := by decide
theorem test_decode_clrMi : decode 0b11011110100101#14 = some (.clrMi 0x25 7) := by decide
theorem test_decode_setMi : decode 0b11000110101011#14 = some (.setMi 0x2B 3) := by decide
theorem test_decode_jmp : decode 0b10100010100101#14 = some (.jmp 0x0A5) := by decide
theorem test_decode_szM : decode 0b01000010001010#14 = some (.szM 0x0A) := by decide
theorem test_decode_szaM : decode 0b01000000010011#14 = some (.szaM 0x13) := by decide
theorem test_decode_szMi : decode 0b11110110000001#14 = some (.szMi 0x01 3) := by decide
theorem test_decode_snzMi : decode 0b11101010100000#14 = some (.snzMi 0x20 5) := by decide
theorem test_decode_sizM : decode 0b01011010100101#14 = some (.sizM 0x25) := by decide
theorem test_decode_sdzM : decode 0b01011110101011#14 = some (.sdzM 0x2B) := by decide
theorem test_decode_sizaM : decode 0b01011000111111#14 = some (.sizaM 0x3F) := by decide
theorem test_decode_sdzaM : decode 0b01011100001010#14 = some (.sdzaM 0x0A) := by decide
theorem test_decode_call : decode 0b10000010100101#14 = some (.call 0x0A5) := by decide
theorem test_decode_ret : decode 0b00000000000011#14 = some .ret := by decide
theorem test_decode_retAx : decode 0b00100110100101#14 = some (.retAx 0xA5) := by decide
theorem test_decode_reti : decode 0b00000000000100#14 = some .reti := by decide
theorem test_decode_nop : decode 0b00000000000000#14 = some .nop := by decide
theorem test_decode_clrM : decode 0b01111100111111#14 = some (.clrM 0x3F) := by decide
theorem test_decode_setM : decode 0b01111110001010#14 = some (.setM 0x0A) := by decide
theorem test_decode_clrWdt : decode 0b00000000000001#14 = some .clrWdt := by decide
theorem test_decode_halt : decode 0b00000000000010#14 = some .halt := by decide

/-! ### Single steps -/

/-- The state the rows start from: address 010H, nothing counted, every pad driven low. -/
def start : State :=
  { State.reset with
    pc := 0x010, cycles := 0, pins := { Pins.idle with drvA := 0xFF#8, drvB := 3, drvC := 3, lvlA := 0, lvlB := 0, lvlC := 0 } }

/-- A step with the given word at the program counter. -/
def runs (w : Nat) (s : State) : Result := step (s.withFetchWord 16 w)

/-- A step with one event of the environment. -/
def sees (e : Event) (s : State) : Result := step { s with env := [.event e] }

theorem test_addAM_V2 : endsIn (runs 0x0320 { start with acc := 0x7F, ram := [(0x20, 0x01)] })
    (fun t => t.acc == 0x80 && !t.status.c && t.status.ac && !t.status.z && t.status.ov && t.pc == 0x11 && t.cycles == 1) = true := by decide
theorem test_addAM_V3 : endsIn (runs 0x0320 { start with acc := 0x80, ram := [(0x20, 0x80)] })
    (fun t => t.acc == 0x00 && t.status.c && !t.status.ac && t.status.z && t.status.ov && t.pc == 0x11 && t.cycles == 1) = true := by decide
theorem test_addmAM_V6 : endsIn (runs 0x03A1 { start with acc := 0x01, ram := [(0x21, 0x7F)] })
    (fun t => t.acc == 0x01 && !t.status.c && t.status.ac && !t.status.z && t.status.ov && Memory.read t.ram 0x21 == 0x80 && t.pc == 0x11 && t.cycles == 1) = true := by decide
theorem test_addmAM_V125 : endsIn (runs 0x0386 { start with pc := 0x1FE, acc := 0xFF })
    (fun t => t.status.c && t.status.ac && !t.status.z && !t.status.ov && t.pc == 0x1FE && t.cycles == 2) = true := by decide
theorem test_addAx_V7 : endsIn (runs 0x0B01 { start with acc := 0xFF })
    (fun t => t.acc == 0x00 && t.status.c && t.status.ac && t.status.z && !t.status.ov && t.pc == 0x11 && t.cycles == 1) = true := by decide
theorem test_addAx_V8 : endsIn (runs 0x0B01 { start with acc := 0x0F })
    (fun t => t.acc == 0x10 && !t.status.c && t.status.ac && !t.status.z && !t.status.ov && t.pc == 0x11 && t.cycles == 1) = true := by decide
theorem test_adcAM_V11 : endsIn (runs 0x1320 { start with acc := 0xFF, ram := [(0x20, 0xFF)], status := { start.status with c := true } })
    (fun t => t.status.c && t.status.ac && !t.status.z && !t.status.ov && t.pc == 0x11 && t.cycles == 1) = true := by decide
theorem test_adcAM_V12 : endsIn (runs 0x1320 { start with acc := 0x7F, status := { start.status with c := true } })
    (fun t => t.acc == 0x80 && !t.status.c && t.status.ac && !t.status.z && t.status.ov && t.pc == 0x11 && t.cycles == 1) = true := by decide
theorem test_adcmAM_V13 : endsIn (runs 0x13A2 { start with acc := 0x00, ram := [(0x22, 0xFF)], status := { start.status with c := true } })
    (fun t => t.acc == 0x00 && t.status.c && t.status.ac && t.status.z && !t.status.ov && Memory.read t.ram 0x22 == 0x00 && t.pc == 0x11 && t.cycles == 1) = true := by decide
theorem test_subAx_V14 : endsIn (runs 0x0A50 { start with acc := 0x30 })
    (fun t => t.acc == 0xE0 && !t.status.c && t.status.ac && !t.status.z && !t.status.ov && t.pc == 0x11 && t.cycles == 1) = true := by decide
theorem test_subAx_V17 : endsIn (runs 0x0A00 { start with acc := 0x00 })
    (fun t => t.status.c && t.status.ac && t.status.z && !t.status.ov && t.pc == 0x11 && t.cycles == 1) = true := by decide
theorem test_subAM_V18 : endsIn (runs 0x0220 { start with acc := 0x80, ram := [(0x20, 0x01)] })
    (fun t => t.acc == 0x7F && t.status.c && !t.status.ac && !t.status.z && t.status.ov && t.pc == 0x11 && t.cycles == 1) = true := by decide
theorem test_subAM_V20 : endsIn (runs 0x0220 { start with acc := 0x10, ram := [(0x20, 0x01)] })
    (fun t => t.acc == 0x0F && t.status.c && !t.status.ac && !t.status.z && !t.status.ov && t.pc == 0x11 && t.cycles == 1) = true := by decide
theorem test_submAM_V21 : endsIn (runs 0x02A3 { start with acc := 0x50, ram := [(0x23, 0x30)] })
    (fun t => t.acc == 0x50 && t.status.c && t.status.ac && !t.status.z && !t.status.ov && Memory.read t.ram 0x23 == 0x20 && t.pc == 0x11 && t.cycles == 1) = true := by decide
theorem test_sbcAM_V22 : endsIn (runs 0x1220 { start with acc := 0x50, ram := [(0x20, 0x30)], status := { start.status with c := false } })
    (fun t => t.acc == 0x1F && t.status.c && !t.status.ac && !t.status.z && !t.status.ov && t.pc == 0x11 && t.cycles == 1) = true := by decide
theorem test_sbcAM_V24 : endsIn (runs 0x1220 { start with acc := 0x00, status := { start.status with c := false } })
    (fun t => t.acc == 0xFF && !t.status.c && !t.status.ac && !t.status.z && !t.status.ov && t.pc == 0x11 && t.cycles == 1) = true := by decide
theorem test_sbcmAM_V26 : endsIn (runs 0x12A4 { start with acc := 0x01, ram := [(0x24, 0x01)], status := { start.status with c := false } })
    (fun t => t.acc == 0x01 && !t.status.c && !t.status.ac && !t.status.z && !t.status.ov && Memory.read t.ram 0x24 == 0xFF && t.pc == 0x11 && t.cycles == 1) = true := by decide
theorem test_sbcmAM_V27 : endsIn (runs 0x12A4 { start with acc := 0x80, ram := [(0x24, 0x80)], status := { start.status with c := true } })
    (fun t => t.acc == 0x80 && t.status.c && t.status.ac && t.status.z && !t.status.ov && Memory.read t.ram 0x24 == 0x00 && t.pc == 0x11 && t.cycles == 1) = true := by decide
theorem test_andAM_V28 : endsIn (runs 0x0620 { start with acc := 0xF0, ram := [(0x20, 0x3C)], status := { start.status with ov := true, c := true } })
    (fun t => t.acc == 0x30 && t.status.c && !t.status.ac && !t.status.z && t.status.ov && t.pc == 0x11 && t.cycles == 1) = true := by decide
theorem test_orAM_V29 : endsIn (runs 0x0520 { start with acc := 0x00 })
    (fun t => !t.status.c && !t.status.ac && t.status.z && !t.status.ov && t.pc == 0x11 && t.cycles == 1) = true := by decide
theorem test_xorAM_V30 : endsIn (runs 0x0420 { start with acc := 0xAA, ram := [(0x20, 0xFF)] })
    (fun t => t.acc == 0x55 && !t.status.c && !t.status.ac && !t.status.z && !t.status.ov && t.pc == 0x11 && t.cycles == 1) = true := by decide
theorem test_andmAM_V31 : endsIn (runs 0x06A5 { start with acc := 0x0F, ram := [(0x25, 0xF0)] })
    (fun t => t.acc == 0x0F && !t.status.c && !t.status.ac && t.status.z && !t.status.ov && Memory.read t.ram 0x25 == 0x00 && t.pc == 0x11 && t.cycles == 1) = true := by decide
theorem test_ormAM_V32 : endsIn (runs 0x05A5 { start with acc := 0x81, ram := [(0x25, 0x18)] })
    (fun t => t.acc == 0x81 && !t.status.c && !t.status.ac && !t.status.z && !t.status.ov && Memory.read t.ram 0x25 == 0x99 && t.pc == 0x11 && t.cycles == 1) = true := by decide
theorem test_xormAM_V33 : endsIn (runs 0x04A5 { start with acc := 0xFF, ram := [(0x25, 0x5A)] })
    (fun t => t.acc == 0xFF && !t.status.c && !t.status.ac && !t.status.z && !t.status.ov && Memory.read t.ram 0x25 == 0xA5 && t.pc == 0x11 && t.cycles == 1) = true := by decide
theorem test_andAx_V34 : endsIn (runs 0x0E0F { start with acc := 0x5A })
    (fun t => t.acc == 0x0A && !t.status.c && !t.status.ac && !t.status.z && !t.status.ov && t.pc == 0x11 && t.cycles == 1) = true := by decide
theorem test_orAx_V35 : endsIn (runs 0x0D80 { start with acc := 0x40 })
    (fun t => t.acc == 0xC0 && !t.status.c && !t.status.ac && !t.status.z && !t.status.ov && t.pc == 0x11 && t.cycles == 1) = true := by decide
theorem test_xorAx_V36 : endsIn (runs 0x0C3C { start with acc := 0x3C })
    (fun t => t.acc == 0x00 && !t.status.c && !t.status.ac && t.status.z && !t.status.ov && t.pc == 0x11 && t.cycles == 1) = true := by decide
theorem test_cplM_V37 : endsIn (runs 0x01A6 { start with ram := [(0x26, 0xFF)] })
    (fun t => !t.status.c && !t.status.ac && t.status.z && !t.status.ov && Memory.read t.ram 0x26 == 0x00 && t.pc == 0x11 && t.cycles == 1) = true := by decide
theorem test_cplaM_V38 : endsIn (runs 0x0126 { start with ram := [(0x26, 0x0F)] })
    (fun t => t.acc == 0xF0 && !t.status.c && !t.status.ac && !t.status.z && !t.status.ov && Memory.read t.ram 0x26 == 0x0F && t.pc == 0x11 && t.cycles == 1) = true := by decide
theorem test_incaM_V39 : endsIn (runs 0x1427 { start with ram := [(0x27, 0xFF)], status := { start.status with c := false } })
    (fun t => !t.status.c && !t.status.ac && t.status.z && !t.status.ov && Memory.read t.ram 0x27 == 0xFF && t.pc == 0x11 && t.cycles == 1) = true := by decide
theorem test_incM_V41 : endsIn (runs 0x14A7 { start with ram := [(0x27, 0xFF)], status := { start.status with z := false } })
    (fun t => !t.status.c && !t.status.ac && t.status.z && !t.status.ov && Memory.read t.ram 0x27 == 0x00 && t.pc == 0x11 && t.cycles == 1) = true := by decide
theorem test_incM_V141 : refusesWith (runs 0x148A start) .statusFlagClash = true := by decide
theorem test_decaM_V42 : endsIn (runs 0x1527 { start with status := { start.status with z := true } })
    (fun t => t.acc == 0xFF && !t.status.c && !t.status.ac && !t.status.z && !t.status.ov && Memory.read t.ram 0x27 == 0x00 && t.pc == 0x11 && t.cycles == 1) = true := by decide
theorem test_decM_V43 : endsIn (runs 0x15A7 { start with ram := [(0x27, 0x01)] })
    (fun t => !t.status.c && !t.status.ac && t.status.z && !t.status.ov && Memory.read t.ram 0x27 == 0x00 && t.pc == 0x11 && t.cycles == 1) = true := by decide
theorem test_rraM_V45 : endsIn (runs 0x1928 { start with ram := [(0x28, 0x01)], status := { start.status with c := false } })
    (fun t => t.acc == 0x80 && !t.status.c && !t.status.z && Memory.read t.ram 0x28 == 0x01 && t.pc == 0x11 && t.cycles == 1) = true := by decide
theorem test_rrM_V46 : endsIn (runs 0x19A8 { start with ram := [(0x28, 0x96)] })
    (fun t => !t.status.c && !t.status.z && Memory.read t.ram 0x28 == 0x4B && t.pc == 0x11 && t.cycles == 1) = true := by decide
theorem test_rrcaM_V47 : endsIn (runs 0x1B28 { start with ram := [(0x28, 0x01)], status := { start.status with c := false } })
    (fun t => t.status.c && !t.status.z && Memory.read t.ram 0x28 == 0x01 && t.pc == 0x11 && t.cycles == 1) = true := by decide
theorem test_rrcM_V48 : endsIn (runs 0x1BA8 { start with ram := [(0x28, 0x02)], status := { start.status with c := true } })
    (fun t => !t.status.c && !t.status.z && Memory.read t.ram 0x28 == 0x81 && t.pc == 0x11 && t.cycles == 1) = true := by decide
theorem test_rrcM_V54 : endsIn (runs 0x1B85 { start with acc := 0x01, status := { start.status with c := false } })
    (fun t => t.acc == 0x00 && t.status.c && !t.status.z && t.pc == 0x11 && t.cycles == 1) = true := by decide
theorem test_rlaM_V49 : endsIn (runs 0x1828 { start with ram := [(0x28, 0x81)] })
    (fun t => t.acc == 0x03 && !t.status.c && !t.status.z && Memory.read t.ram 0x28 == 0x81 && t.pc == 0x11 && t.cycles == 1) = true := by decide
theorem test_rlM_V50 : endsIn (runs 0x18A8 { start with ram := [(0x28, 0x96)] })
    (fun t => !t.status.c && !t.status.z && Memory.read t.ram 0x28 == 0x2D && t.pc == 0x11 && t.cycles == 1) = true := by decide
theorem test_rlcaM_V51 : endsIn (runs 0x1A28 { start with ram := [(0x28, 0x80)], status := { start.status with c := true } })
    (fun t => t.acc == 0x01 && t.status.c && !t.status.z && Memory.read t.ram 0x28 == 0x80 && t.pc == 0x11 && t.cycles == 1) = true := by decide
theorem test_rlcM_V53 : endsIn (runs 0x1AA8 { start with ram := [(0x28, 0x80)], status := { start.status with c := false, z := false } })
    (fun t => t.status.c && !t.status.z && Memory.read t.ram 0x28 == 0x00 && t.pc == 0x11 && t.cycles == 1) = true := by decide
theorem test_rlcM_V143 : refusesWith (runs 0x1A80 { start with mp := 0x0A }) .statusFlagClash = true := by decide
theorem test_movAM_V105 : endsIn (runs 0x0701 { start with mp := 0x25 })
    (fun t => t.acc == 0xA5 && t.pc == 0x11 && t.cycles == 1) = true := by decide
theorem test_movAM_V138 : endsIn (runs 0x0712 { start with pac := 0xF0, paLatch := 0x0A, pins := { start.pins with lvlA := 0x5F } })
    (fun t => t.acc == 0x5A && t.pc == 0x11 && t.cycles == 1) = true := by decide
theorem test_movMA_V122 : endsIn (runs 0x0086 { start with pc := 0x1F0, acc := 0x05 })
    (fun t => t.pc == 0x105 && t.cycles == 2) = true := by decide
theorem test_movMA_V128 : endsIn (runs 0x008A { start with acc := 0x00, status := { start.status with tmo := true, pd := true, c := true, z := true } })
    (fun t => !t.status.c && !t.status.z && t.status.pd && t.status.tmo && t.pc == 0x11 && t.cycles == 1) = true := by decide
theorem test_movAx_V59 : endsIn (runs 0x0FA5 start)
    (fun t => t.acc == 0xA5 && t.pc == 0x11 && t.cycles == 1) = true := by decide
theorem test_clrMi_V60 : endsIn (runs 0x37AA { start with ram := [(0x2A, 0xFF)] })
    (fun t => Memory.read t.ram 0x2A == 0x7F && t.pc == 0x11 && t.cycles == 1) = true := by decide
theorem test_clrMi_V64 : endsIn (runs 0x340A { start with status := { start.status with c := true, z := true, tmo := true, pd := true } })
    (fun t => !t.status.c && t.status.z && t.status.pd && t.status.tmo && t.pc == 0x11 && t.cycles == 1) = true := by decide
theorem test_setMi_V65 : endsIn (runs 0x328A { start with status := { start.status with tmo := false } })
    (fun t => !t.status.tmo && t.pc == 0x11 && t.cycles == 1) = true := by decide
theorem test_setMi_V139 : endsIn (runs 0x3392 { start with pac := 0xF0, paLatch := 0x0A, pins := { start.pins with lvlA := 0x5A } })
    (fun t => t.paLatch == 0xDA && t.pc == 0x11 && t.cycles == 1) = true := by decide
theorem test_jmp_V72 : endsIn (runs 0x29FF { start with pc := 0x0FE })
    (fun t => t.pc == 0x1FF && t.cycles == 2) = true := by decide
theorem test_szM_V73 : endsIn (runs 0x10AB { start with pc := 0x020 })
    (fun t => t.pc == 0x22 && t.cycles == 2) = true := by decide
theorem test_szM_V90 : endsIn (runs 0x10AB { start with pc := 0x1FF })
    (fun t => t.pc == 0x01 && t.cycles == 2) = true := by decide
theorem test_szaM_V75 : endsIn (runs 0x102B { start with pc := 0x020, ram := [(0x2B, 0x07)], acc := 0x00 })
    (fun t => t.acc == 0x07 && t.pc == 0x21 && t.cycles == 1) = true := by decide
theorem test_szaM_V76 : endsIn (runs 0x102B { start with pc := 0x020, acc := 0x55 })
    (fun t => t.acc == 0x00 && t.pc == 0x22 && t.cycles == 2) = true := by decide
theorem test_szMi_V77 : endsIn (runs 0x3C0A { start with pc := 0x030, status := { start.status with c := true } })
    (fun t => t.pc == 0x31 && t.cycles == 1) = true := by decide
theorem test_szMi_V78 : endsIn (runs 0x3C0A { start with pc := 0x030, status := { start.status with c := false } })
    (fun t => t.pc == 0x32 && t.cycles == 2) = true := by decide
theorem test_snzMi_V79 : endsIn (runs 0x390A { start with pc := 0x030, status := { start.status with z := true } })
    (fun t => t.pc == 0x32 && t.cycles == 2) = true := by decide
theorem test_snzMi_V80 : endsIn (runs 0x3A8B { start with pc := 0x030, intc := { start.intc with tf := false } })
    (fun t => t.pc == 0x31 && t.cycles == 1) = true := by decide
theorem test_sizM_V81 : endsIn (runs 0x16AC { start with pc := 0x040, ram := [(0x2C, 0xFF)] })
    (fun t => Memory.read t.ram 0x2C == 0x00 && t.pc == 0x42 && t.cycles == 2) = true := by decide
theorem test_sizM_V145 : endsIn (runs 0x168A { start with status := { start.status with c := true, ac := true, tmo := true } })
    (fun t => !t.status.c && !t.status.ac && t.status.z && !t.status.pd && t.status.tmo && t.pc == 0x11 && t.cycles == 1) = true := by decide
theorem test_sdzM_V84 : endsIn (runs 0x17AC { start with pc := 0x040 })
    (fun t => Memory.read t.ram 0x2C == 0xFF && t.pc == 0x41 && t.cycles == 1) = true := by decide
theorem test_sdzM_V148 : refusesWith (runs 0x1786 start) .skipOnPCL = true := by decide
theorem test_sizaM_V86 : endsIn (runs 0x162C { start with pc := 0x040, ram := [(0x2C, 0xFF)], acc := 0x33 })
    (fun t => t.acc == 0x00 && Memory.read t.ram 0x2C == 0xFF && t.pc == 0x42 && t.cycles == 2) = true := by decide
theorem test_sizaM_V150 : endsIn (runs 0x1606 { start with pc := 0x0FE, acc := 0x77 })
    (fun t => t.acc == 0x00 && t.pc == 0x100 && t.cycles == 2) = true := by decide
theorem test_sdzaM_V87 : endsIn (runs 0x172C { start with pc := 0x040 })
    (fun t => t.acc == 0xFF && Memory.read t.ram 0x2C == 0x00 && t.pc == 0x41 && t.cycles == 1) = true := by decide
theorem test_sdzaM_V88 : endsIn (runs 0x172C { start with pc := 0x040, ram := [(0x2C, 0x01)], acc := 0x33 })
    (fun t => t.acc == 0x00 && Memory.read t.ram 0x2C == 0x01 && t.pc == 0x42 && t.cycles == 2) = true := by decide
theorem test_call_V91 : endsIn (runs 0x2100 { start with pc := 0x012 })
    (fun t => t.stack == 0x13 && t.stackFull && t.pc == 0x100 && t.cycles == 2) = true := by decide
theorem test_call_V92 : endsIn (runs 0x2100 { start with pc := 0x105, stack := 0x13, stackFull := true })
    (fun t => t.stack == 0x106 && t.stackFull && t.pc == 0x100 && t.cycles == 2) = true := by decide
theorem test_ret_V93 : endsIn (runs 0x0003 { start with pc := 0x100, stack := 0x13, stackFull := true, intc := { start.intc with emi := false } })
    (fun t => !t.intc.emi && !t.stackFull && t.pc == 0x13 && t.cycles == 2) = true := by decide
theorem test_ret_V94 : refusesWith (runs 0x0003 { start with pc := 0x100, stack := 0x13, stackFull := false }) .stackUnderflow = true := by decide
theorem test_retAx_V95 : endsIn (runs 0x095A { start with pc := 0x100, stack := 0x13, stackFull := true })
    (fun t => t.acc == 0x5A && !t.stackFull && t.pc == 0x13 && t.cycles == 2) = true := by decide
theorem test_reti_V96 : endsIn (runs 0x0004 { start with pc := 0x00A, stack := 0x56, stackFull := true, intc := { start.intc with emi := false } })
    (fun t => t.intc.emi && !t.stackFull && t.pc == 0x56 && t.cycles == 2) = true := by decide
theorem test_nop_V99 : endsIn (runs 0x0000 { start with pc := 0x1FF })
    (fun t => t.pc == 0x00 && t.cycles == 1) = true := by decide
theorem test_clrWdt_V100 : endsIn (runs 0x0001 { start with wdt3 := 0x05, status := { start.status with tmo := true, pd := true } })
    (fun t => !t.status.pd && !t.status.tmo && t.wdt3 == 0x00 && t.pc == 0x11 && t.cycles == 1) = true := by decide
theorem test_clrWdt_V103 : endsIn (runs 0x0001 { start with status := { start.status with tmo := true, pd := true }, cfg := { start.cfg with opt := { Config.Options.blank with wdtDisable := true }, wdtOffFlagWrites := false } })
    (fun t => t.status.pd && t.status.tmo && t.pc == 0x11 && t.cycles == 1) = true := by decide
theorem test_halt_V101 : endsIn (runs 0x0002 { start with pc := 0x050, wdt3 := 0x03, status := { start.status with tmo := true, pd := false } })
    (fun t => t.status.pd && !t.status.tmo && t.halted && t.wdt3 == 0x00 && t.pc == 0x51 && t.cycles == 1) = true := by decide
theorem test_halt_V104 : endsIn (runs 0x0002 { start with status := { start.status with tmo := true, pd := false }, cfg := { start.cfg with opt := { Config.Options.blank with wdtDisable := true }, wdtOffFlagWrites := false } })
    (fun t => !t.status.pd && t.status.tmo && t.halted && t.pc == 0x11 && t.cycles == 1) = true := by decide
theorem test_clrM_V69 : endsIn (runs 0x1F13 start)
    (fun t => t.pac == 0x00 && t.pc == 0x11 && t.cycles == 1) = true := by decide
theorem test_clrM_V147 : endsIn (runs 0x1F06 { start with pc := 0x1A5 })
    (fun t => t.pc == 0x100 && t.cycles == 2) = true := by decide
theorem test_setM_V68 : endsIn (runs 0x1FAD start)
    (fun t => Memory.read t.ram 0x2D == 0xFF && t.pc == 0x11 && t.cycles == 1) = true := by decide
theorem test_setM_V70 : endsIn (runs 0x1F95 { start with pbc := 0x00 })
    (fun t => t.pbc == 0x03 && t.pc == 0x11 && t.cycles == 1) = true := by decide
theorem test_illegal_V154 : refusesWith (runs 0x3FFF start) .illegalWord = true := by decide

/-! ### Interrupts, timer, halt, watchdog, RES (the S rows) -/

/-- Both interrupts enabled. -/
def armed : Intc := { emi := true, eei := true, eti := true, eif := false, tf := false }

/-- A device with wake-up on PA3. -/
def wakesOnPA3 : Config.Device := { Config.Device.blank with opt := { Config.Options.blank with wake := 8 } }

/-- Halted by HALT at 050H. -/
def halted : State :=
  { start with
    pc := 0x051, halted := true, status := { start.status with pd := true }, cfg := wakesOnPA3,
    pins := { start.pins with lvlA := 0xFF#8 } }

theorem test_external_interrupt_S1 : endsIn (runs 0 { start with pc := 0x025, intc := { armed with eif := true } })
    (fun t => t.stack == 0x025 && t.stackFull && t.pc == 0x004 && !t.intc.eif && !t.intc.emi && t.intc.eei) = true := by decide
theorem test_stack_full_holds_S2 :
    endsIn (runs 0 { start with pc := 0x025, intc := { armed with eif := true }, stackFull := true, stack := 0x077 })
    (fun t => t.stack == 0x077 && t.pc == 0x026 && t.intc.eif && t.intc.emi) = true := by decide
theorem test_timer_interrupt_S4 :
    endsIn (runs 0 { start with pc := 0x025, intc := { armed with eei := false, eif := true, tf := true } })
    (fun t => t.stack == 0x025 && t.pc == 0x008 && !t.intc.tf && !t.intc.emi && t.intc.eif) = true := by decide
theorem test_external_first_S5 : endsIn (runs 0 { start with pc := 0x025, intc := { armed with eif := true, tf := true } })
    (fun t => t.pc == 0x004 && !t.intc.eif && t.intc.tf) = true := by decide
theorem test_timer_overflow_S9a :
    endsIn (sees .instrClock { start with tmr := 0xFF, tmrc := { start.tmrc with ton := true, tm1 := true } })
    (fun t => t.tmr == 0x00 && t.intc.tf && t.tmrc.ton) = true := by decide
theorem test_timer_off_S9c : endsIn (sees .instrClock { start with tmr := 0xFF, tmrc := { start.tmrc with tm1 := true } })
    (fun t => t.tmr == 0xFF && !t.intc.tf) = true := by decide
theorem test_timer_unused_mode_S9d :
    refusesWith (sees .instrClock { start with tmrc := { start.tmrc with ton := true } }) .timerModeUnused = true := by decide
theorem test_event_count_S9e :
    endsIn (sees (.intPad false) { start with tmr := 0xFF, tmrc := { start.tmrc with ton := true, tm0 := true } })
    (fun t => t.tmr == 0x00 && t.intc.tf && t.intc.eif) = true := by decide
theorem test_other_edge_S9f :
    endsIn (sees (.intPad false) { start with tmr := 0x10, tmrc := { te := false, ton := true, tm0 := true, tm1 := false } })
    (fun t => t.tmr == 0x10 && t.intc.eif) = true := by decide
/-- A device whose timer counts the prescaler divided by 2^(n+1), n = 7, fed by the RC oscillator. -/
def tapped : Config.Device :=
  { Config.Device.blank with opt := { Config.Options.blank with tmrSrc := true, tmrPresc := 7 } }

/-- The same with the prescaler fed by the instruction clock. -/
def tappedByCore : Config.Device := { tapped with opt := { tapped.opt with prescSrc := true } }

/-- In timer mode with TON = 1, one tick before the end of a prescaler period. -/
def timing : State := { start with cfg := tapped, presc := 0xFF, tmr := 0xFF, tmrc := { start.tmrc with ton := true, tm1 := true } }

/-- R267: division by 2^8 counts at the end of its period; the half of it does not. -/
theorem test_timer_on_prescaler_tap : endsIn (sees .rcClock timing) (fun t => t.tmr == 0x00 && t.intc.tf && t.presc == 0) = true ∧
    endsIn (sees .rcClock { timing with presc := 0x7F }) (fun t => t.tmr == 0xFF && !t.intc.tf && t.presc == 0x80) = true := by decide
/-- R272, R253: the timer goes on in halt on the RC oscillator, and its overflow wakes where TF was 0. -/
theorem test_timer_overflow_wakes : endsIn (sees .rcClock { timing with halted := true }) (fun t => !t.halted && t.intc.tf) = true ∧
    endsIn (sees .rcClock { timing with halted := true, intc := { timing.intc with tf := true } }) (fun t => t.halted) = true := by
  decide
/-- R271: MOV A,[0DH] while the counter is on opens the window; the next instruction closes it. -/
theorem test_tmr_read_window :
    endsIn (runs 0x070D { start with tmr := 0x42, tmrc := { start.tmrc with ton := true, tm1 := true } })
    (fun t => t.acc == 0x42 && t.tmrRead && endsIn (runs 0x0000 t) (fun u => !u.tmrRead)) = true := by decide
theorem test_port_wake_S10a : endsIn (sees (.portA 0xFF 0xF7) halted)
    (fun t => !t.halted && t.pc == 0x051 && t.status.pd && !t.status.tmo) = true := by decide
theorem test_port_no_wake_S10b : endsIn (sees (.portA 0xFF 0xFB) halted) (fun t => t.halted) = true := by decide
theorem test_request_wakes_S10d : endsIn (sees (.intPad false) { halted with intc := { armed with eei := false } })
    (fun t => !t.halted && t.intc.eif && t.pc == 0x051) = true := by decide
theorem test_no_rise_no_wake_S10e :
    endsIn (sees (.intPad false) { halted with intc := { armed with emi := false, eif := true } }) (fun t => t.halted) = true := by decide
theorem test_warm_reset_S11a :
    endsIn (sees .rcClock { halted with wdt3 := 7, presc := 0x1F, acc := 0x5A, ram := [(0x30, 7)], intc := armed, pac := 0 })
    (fun t => t.pc == 0 && !t.halted && t.status.tmo && t.status.pd && t.acc == 0x5A && Memory.read t.ram 0x30 == 7 &&
      t.intc.emi && t.pac == 0) = true := by decide
theorem test_watchdog_reset_S11b :
    endsIn (sees .rcClock { start with
      pc := 0x123, wdt3 := 7, presc := 0x1F, acc := 0x5A, intc := armed, pac := 0, tmr := 0x12,
      status := { start.status with c := true, pd := true } })
    (fun t => t.pc == 0 && t.status.tmo && t.status.pd && t.status.c && t.acc == 0x5A && t.tmr == 0x12 && !t.intc.emi &&
      t.pac == 0xFF && t.tmrc.te) = true := by decide
theorem test_res_running_S11c :
    endsIn (sees (.resPin false) { start with
      pc := 0x123, acc := 0x5A, intc := armed, status := { start.status with c := true, pd := true, tmo := true } })
    (fun t => t.pc == 0 && t.status.tmo && t.status.pd && t.status.c && t.acc == 0x5A && !t.intc.emi) = true := by decide
theorem test_res_halted_S11d :
    endsIn (sees (.resPin false) { halted with acc := 0x5A, intc := armed, pac := 0 })
    (fun t => t.pc == 0 && !t.halted && !t.status.tmo && t.status.pd && t.acc == 0x5A && t.pac == 0xFF) = true := by decide
theorem test_power_up_S11e : endsIn (sees .powerUp halted)
    (fun t => t.pc == 0 && !t.halted && !t.status.tmo && !t.status.pd && t.pac == 0xFF && t.tmrc.te) = true := by decide

/-! ### Witnesses: a state and operands that meet the hypotheses of each statement, one per clause -/

/-- A state about to run the word `w`. -/
def about (w : Nat) : State := start.withFetchWord 16 w

/-- Its state while that instruction executes. -/
def during (w : Nat) : State := (about w).begin

theorem witness_DecodeOfEncodeIsTheInstruction : (Instr.addAM 0x3F).wellFormed = true := by decide
theorem witness_DecodedWordIsItsOwnEncoding : decode 0x37BF#14 = some (.clrMi 0x3F 7) := by decide
theorem witness_ReservedWordsAreRefused :
    (about 0x0005).env = [] ∧ (about 0x0005).runsNext = true ∧ decode (fetch (about 0x0005) (about 0x0005).pc) = none := by decide
/-- The core's turn from the empty schedule and from one that goes on, for every statement that asks coreNext. -/
theorem witness_coreNext : (about 0x0005).coreNext [] ∧
    ({ about 0x0005 with env := [.core, .event .rcClock] } : State).coreNext [.event .rcClock] := ⟨.inl ⟨rfl, rfl⟩, .inr rfl⟩
theorem witness_StepRunsTheDecodedInstruction :
    (about 0x37BF).env = [] ∧ (about 0x37BF).runsNext = true ∧
    decode (fetch (about 0x37BF) (about 0x37BF).pc) = some (.clrMi 0x3F 7) ∧ (Instr.clrMi 0x3F 7).wellFormed = true := by decide
theorem witness_StepRunsTheDecodedInstruction_scheduled :
    let s : State := { about 4 with env := [.core, .event .rcClock] }
    s.env = .core :: [.event .rcClock] ∧ s.runsNext = true ∧ decode (fetch s s.pc) = some .reti := by decide
theorem witness_FetchReadsTheProgrammedWord : 0x3FFF < 2 ^ 14 ∧ (0x1FF#9 : ProgAddr) ≠ start.pc := by decide
/-- The six immediate words at both ends of the operand's range. -/
theorem witness_ImmediateInstructionStep :
    ∀ base ∈ [0x0B00, 0x0A00, 0x0E00, 0x0D00, 0x0C00, 0x0F00], ∀ x ∈ [0x00#8, 0xFF#8],
      (about (base + x.toNat)).env = [] ∧ (about (base + x.toNat)).runsNext = true ∧
      (fetch (about (base + x.toNat)) (about (base + x.toNat)).pc).toNat = base + x.toNat := by decide
theorem witness_JumpAndNopStep :
    (∀ addr ∈ [0x000#9, 0x1FF#9], (about (0x2800 + addr.toNat)).env = [] ∧ (about (0x2800 + addr.toNat)).runsNext = true ∧
      (fetch (about (0x2800 + addr.toNat)) (about (0x2800 + addr.toNat)).pc).toNat = 0x2800 + addr.toNat) ∧
    (fetch (about 0) (about 0).pc).toNat = 0x0000 := by decide
/-- HALT about to run with nothing in its way; the halted core at its turn, at a clock, at a fall on PA3, and at a reset. -/
theorem witness_HaltedCoreWaits :
    exec .halt (during 2) = .next (((during 2).clearWdt3.writeToPd false true).setHalted true) ∧ step (about 2) = .next (((during 2).clearWdt3.writeToPd false true).setHalted true) ∧
    (about 2).halted = false ∧ (((during 2).clearWdt3.writeToPd false true).setHalted true).halted = true ∧
    halted.halted = true ∧ halted.env = [] ∧ { halted with env := [.core] }.env = .core :: [] ∧
    { halted with env := [.event .instrClock] }.env = .event .instrClock :: [] ∧
    step { halted with env := [.event (.portA 0xFF 0xF7)] } = .next (portAPads 0xFF 0xF7 halted) ∧
    (portAPads 0xFF 0xF7 halted).halted = false ∧ halted.pins.res = true ∧
    step { halted with env := [.event (.resPin false)] } = .next (resPin false halted) :=
  ⟨rfl, rfl, rfl, rfl, rfl, rfl, rfl, rfl, rfl, by decide, rfl, rfl⟩
/-- RES low. -/
def held : State := { State.reset with pins := { Pins.idle with res := false } }
theorem witness_CoreIsHeldWhileResIsLow :
    held.pins.res = false ∧ held.env = [] ∧ { held with env := [.core] }.env = .core :: [] ∧
    { held with env := [.event .instrClock] }.env = .event .instrClock :: [] ∧
    { held with env := [.event .rcClock] }.env = .event .rcClock :: [] := by decide
/-- Every address of the map is named by some operand: 00H to 3FH directly (00H with MP = 00H), 40H and 7FH through MP. -/
theorem witness_OperandReadFollowsTheMap :
    (∀ e : Fin 64, (effectiveAddr (BitVec.ofNat 6 e.val) start).toNat = e.val) ∧
    (effectiveAddr 0 { start with mp := 0x40 }).toNat = 0x40 ∧ (effectiveAddr 0 { start with mp := 0x7F }).toNat = 0x7F := by decide
theorem witness_ReadingTmrOpensTheWindow :
    let on : State := { start with tmrc := { start.tmrc with ton := true } }
    ((effectiveAddr 0x0D on).toNat = 0x0D ∧ on.tmrc.ton = true) ∧ (effectiveAddr 0x0E on).toNat ≠ 0x0D ∧
    start.tmrc.ton = false := by decide
theorem witness_OperandWriteFollowsTheMap :
    Memory.wf start.ram = true ∧ (∀ e : Fin 64, (effectiveAddr (BitVec.ofNat 6 e.val) start).toNat = e.val) ∧
    0x40 ≤ (effectiveAddr 0 { start with mp := 0x40 }).toNat := by decide
theorem witness_MpAndStatusAsDataMemory :
    (effectiveAddr 0x01 start).toNat = 0x01 ∧ (effectiveAddr 0 { start with mp := 0x01 }).toNat = 0x01 ∧
    (effectiveAddr 0x0A start).toNat = 0x0A ∧ Event.portB 0 0 ≠ .powerUp ∧
    step { start with env := [.event (.portB 0 0)] } = .next { start with pins := { start.pins with drvB := 0, lvlB := 0 } } :=
  ⟨by decide, by decide, by decide, by decide, rfl⟩
theorem witness_IndirectAccessGoesThroughMp :
    (Instr.rlcM 0).memOperand = some 0 ∧ (0 < ({ start with mp := 0x01 } : State).mp.toNat) ∧
    ({ start with mp := 0x3F } : State).mp.toNat < 0x40 ∧ 0x40 ≤ ({ start with mp := 0x40 } : State).mp.toNat ∧
    0x40 ≤ ({ start with mp := 0x7F } : State).mp.toNat ∧ start.mp.toNat = 0 := by decide
/-- For ArithmeticToAccResult, LogicToAccResult, IncrementDecrementResult, RotateToAccResult, RotateToMemoryResult, MoveToAccResult,
PlainStoreResult, BitOperationResult and SkipLoadingAccResult: direct at the top of RAM, at 00H, and through MP. -/
theorem witness_accessible : accessible 0x3F start = true ∧ accessible 0 start = true ∧
    accessible 0 { start with mp := 0x3F } = true := by decide
/-- For ArithmeticToMemoryResult, LogicToMemoryResult and the second halves of IncrementDecrementResult and RotateToMemoryResult: RAM, ACC
and PCL as destination. -/
theorem witness_accessible_away_from_status :
    accessible 0x20 start = true ∧ locate 0x20 start ≠ .status ∧ accessible 0x05 start = true ∧ locate 0x05 start ≠ .status ∧
    accessible 0x06 start = true ∧ locate 0x06 start ≠ .status := by decide
theorem witness_FlagWriterOnStatusIsRefused :
    (effectiveAddr 0x0A start).toNat = 0x0A ∧ (effectiveAddr 0 { start with mp := 0x0A }).toNat = 0x0A := by decide
theorem witness_StoredByteIsLoadedBack :
    Memory.wf { start with acc := 7 }.ram = true ∧ locate 0x3F { start with acc := 7 } = .ram 0x3F ∧
    exec (.movMA 0x3F) { start with acc := 7 } = .next (writeLoc (.ram 0x3F) 7 { start with acc := 7 }) := ⟨by decide, by decide, rfl⟩
theorem witness_SkipOnOperandResult :
    accessible 0x20 start = true ∧ (operand 0x20 start).toNat = 0 ∧
    (operand 0x20 { start with ram := [(0x20, 0xFE)] }).toNat ≠ 0 ∧
    (operand 0x20 { start with ram := [(0x20, 0xFE)] }).getLsbD (0 : BitIndex).toNat = false ∧
    (operand 0x20 { start with ram := [(0x20, 0xFE)] }).getLsbD (7 : BitIndex).toNat = true := by decide
theorem witness_SkipStoringResult : accessible 0x3F start = true ∧ locate 0x3F start ≠ .pcl := by decide
theorem witness_SkipOnPclIsRefused :
    (effectiveAddr 0x06 start).toNat = 0x06 ∧ (effectiveAddr 0 { start with mp := 0x06 }).toNat = 0x06 := by decide
theorem witness_ReturnResult : { start with stackFull := true }.stackFull = true ∧ start.stackFull = false := by decide
theorem witness_WatchdogInstructionsResult :
    start.cfg.opt.wdtDisable = false ∧
    (∀ b : Bool, let d : Config.Device := { start.cfg with opt := { start.cfg.opt with wdtDisable := true }, wdtOffFlagWrites := b }
      d.opt.wdtDisable = true ∧ d.wdtOffFlagWrites = b) := by decide
theorem witness_InterruptEntryAtTheBoundary_external :
    let s : State := { start with intc := { armed with eif := true, tf := true } }
    s.env = [] ∧ s.pins.res = true ∧ s.halted = false ∧ s.stackFull = false ∧ s.intc.emi = true ∧ s.intc.eei = true ∧
    s.intc.eif = true := by decide
theorem witness_InterruptEntryAtTheBoundary_timer :
    let s : State := { start with intc := { armed with tf := true } }
    s.env = [] ∧ s.pins.res = true ∧ s.halted = false ∧ s.stackFull = false ∧ s.intc.emi = true ∧ s.intc.eif = false ∧
    s.intc.eti = true ∧ s.intc.tf = true := by decide
theorem witness_HeldInterruptLetsTheInstructionRun :
    let s : State := { about 0 with intc := { armed with eif := true }, stackFull := true }
    s.env = [] ∧ s.pins.res = true ∧ s.halted = false ∧ decode (fetch s s.pc) = some .nop ∧ s.stackFull = true ∧
    (about 0).intc.emi = false ∧ armed.eif = false ∧ armed.tf = false := by decide
/-- RETI at both vectors, and an interrupt pending. -/
def servicing (i : Intc) : State := { (start.program 0x004 4).program 0x008 4 with intc := i }
theorem witness_RetiUndoesTheInterruptEntry_external :
    let s := servicing { armed with eif := true, tf := true }
    let t := interruptEntry .external s
    s.acceptable .external = true ∧ step s = .next t ∧ decode (fetch t t.pc) = some .reti ∧
    step t = .next t.begin.pop.enableInterrupts := ⟨by decide, rfl, by decide, rfl⟩
theorem witness_RetiUndoesTheInterruptEntry_timer :
    let s := servicing { armed with tf := true }
    let t := interruptEntry .timer s
    s.acceptable .timer = true ∧ s.acceptable .external = false ∧ step s = .next t ∧ decode (fetch t t.pc) = some .reti ∧
    step t = .next t.begin.pop.enableInterrupts := ⟨by decide, by decide, rfl, by decide, rfl⟩
theorem witness_RetiUndoesTheInterruptEntry_scheduled :
    let s : State := { servicing { armed with tf := true } with env := [.core, .core, .event .rcClock] }
    let t := interruptEntry .timer (s.setEnv [.core, .event .rcClock])
    s.coreNext [.core, .event .rcClock] ∧ step s = .next t ∧ t.coreNext [.event .rcClock] := ⟨.inr rfl, rfl, .inr rfl⟩
/-- For OnlyClrWdtAndHaltChangeToAndPd and NoInstructionReachesTheEnvironment. -/
theorem witness_exec_next :
    exec (.addAx 1) (during 0) = .next (sumToAcc (add8 (during 0).acc 1 false) (during 0)) ∧
    Instr.addAx 1 ≠ .clrWdt ∧ Instr.addAx 1 ≠ .halt := ⟨rfl, by decide, by decide⟩
/-- For FlagsFollowTheTable and EveryOtherRamByteIsUnchanged. -/
theorem witness_exec_next_storing :
    (Instr.clrM 0x20).memOperand = some 0x20 ∧ (Instr.clrM 0x20).storesToMem = true ∧ locate 0x20 (during 0) ≠ .status ∧
    Memory.wf (during 0).ram = true ∧ locate 0x20 (during 0) ≠ .ram 0x21 ∧
    exec (.clrM 0x20) (during 0) = .next (writeLoc (.ram 0x20) 0 (during 0)) := ⟨by decide, by decide, by decide, by decide, by decide, rfl⟩
theorem witness_OnlyCallAndReturnsTouchTheStack :
    exec (.call 0x1FF) start = .next ((start.push start.pc).goto 0x1FF) ∧
    exec .ret { start with stackFull := true } = .next { start with stackFull := true }.pop ∧ exec .nop start = .next start :=
  ⟨rfl, rfl, rfl⟩
theorem witness_OneCycleOrTwo :
    exec (.jmp 0) { start with pc := start.pc + 1, tmrRead := false, cycles := start.cycles + 1 } = .next (start.begin.goto 0) := rfl
theorem witness_StepKeepsProgramAndDevice : step (about 0) = .next (about 0).begin := rfl
theorem witness_StepKeepsTheInvariant : (about 0).Inv ∧ step (about 0) = .next (about 0).begin :=
  ⟨⟨by decide, by decide, by decide, by decide, by decide, fun h => by cases h⟩, rfl⟩
theorem witness_StepKeepsTheInvariant_held : held.Inv ∧ step held = .next held :=
  ⟨⟨by decide, by decide, by decide, by decide, by decide,
    fun _ => ⟨rfl, rfl, rfl, rfl, rfl, rfl, ⟨rfl, rfl⟩, ⟨rfl, rfl⟩, ⟨rfl, rfl⟩⟩⟩, rfl⟩
theorem witness_PowerUpInitialises :
    { halted with env := [.event .powerUp] }.env = .event .powerUp :: [] ∧
    step { halted with env := [.event .powerUp] } = .next { halted with env := [] }.powerUp := ⟨rfl, rfl⟩
theorem witness_ResLowResets :
    start.pins.res = true ∧ start.halted = false ∧ halted.pins.res = true ∧ halted.halted = true ∧
    step { start with env := [.event (.resPin false)] } = .next (resPin false start) ∧
    step { halted with env := [.event (.resPin false)] } = .next (resPin false halted) :=
  ⟨rfl, rfl, rfl, rfl, rfl, rfl⟩
theorem witness_WatchdogTimeoutInNormalOperation : { start with wdt3 := 7 }.halted = false ∧ { start with wdt3 := 7 }.wdt3 = 7 := by
  decide
theorem witness_WatchdogTimeoutInHalt : { halted with wdt3 := 7 }.halted = true ∧ { halted with wdt3 := 7 }.wdt3 = 7 := by decide
/-- The time-out in halt: TON = 1 on the frozen instruction clock, the timer on its tap about to overflow with TF 0 and with TF 1, and an
unused mode. -/
theorem witness_WatchdogTimeoutInHalt_step :
    let s : State := { timing with halted := true, wdt3 := 7, env := [.event .rcClock] }
    let frozen : State := { s with cfg := { tapped with opt := { tapped.opt with tmrSrc := false } } }
    s.pins.res = true ∧ s.halted = true ∧ s.wdt3 = 7 ∧ s.env = .event .rcClock :: [] ∧ s.wdtTimesOut .rcClock = true ∧
    s.timerTicks .rcClock = true ∧ s.tmrc.ton = true ∧ s.tmrc.tm1 = true ∧ s.tmrc.tm0 = false ∧ s.tmrRead = false ∧
    s.tmr.toNat = 255 ∧ s.intc.tf = false ∧ { s with intc := { s.intc with tf := true } }.intc.tf = true ∧
    (frozen.wdtTimesOut .rcClock = true ∧ frozen.timerTicks .rcClock = false ∧ frozen.tmrc.ton = true) ∧
    start.tmrc.tm1 = start.tmrc.tm0 := by decide
/-- The watchdog's tap at division by 32: the last two of the 256 phases, fed by the RC oscillator, also in halt, and by the core's clock. -/
theorem witness_WatchdogPhaseCountsToTheTimeout :
    let s : State := { start with wdt3 := 7, presc := 0xFF, env := [.event .rcClock] }
    let u : State := { start with cfg := tappedByCore, wdt3 := 7, presc := 0xFF, env := [.event .instrClock] }
    let tap := 2 ^ (s.cfg.opt.wdtDiv.toNat + 5)
    (s.pins.res = true ∧ s.cfg.opt.wdtDisable = false ∧ s.tmrc.ton = false ∧ s.env = .event .rcClock :: [] ∧
      s.cfg.opt.prescSrc = false ∧ halted.cfg.opt.prescSrc = false) ∧
    (u.pins.res = true ∧ u.cfg.opt.wdtDisable = false ∧ u.tmrc.ton = false ∧ u.env = .event .instrClock :: [] ∧
      u.cfg.opt.prescSrc = true ∧ u.halted = false ∧ u.cfg.opt.wdtDiv = s.cfg.opt.wdtDiv) ∧
    s.wdt3.toNat * tap + s.presc.toNat % tap + 1 = 8 * tap ∧ s.wdt3.toNat * tap + (0xFE#8).toNat % tap + 1 < 8 * tap := by decide
/-- The same with the timer on. -/
theorem witness_WatchdogPhaseCountsToTheTimeout_timer_on :
    timing.tmrc.ton = true ∧ timing.tmrc.tm1 ≠ timing.tmrc.tm0 ∧
    (let s : State := { halted with tmrc := { start.tmrc with ton := true } }
     s.tmrc.ton = true ∧ s.cfg.opt.tmrSrc = false ∧ s.cfg.opt.prescSrc = false ∧ s.cfg.opt.wdtDisable = false) := by decide
/-- Watchdog disabled by option. -/
def undogged : State :=
  { start with cfg := { start.cfg with opt := { start.cfg.opt with wdtDisable := true }, rcoscRuns := false } }
theorem witness_DisabledWatchdogNeverTimesOut :
    undogged.cfg.opt.wdtDisable = true ∧ step { undogged with env := [.event .rcClock] } = .next undogged ∧
    step { undogged with env := [.event .instrClock] } = .next undogged ∧
    (let s : State := { undogged with status := { start.status with tmo := true } }
     step { s with env := [.event .rcClock] } = .next s ∧ s.status.tmo = true) ∧
    exec .clrWdt undogged = .next (undogged.clearWdt3.writeToPd false false) := ⟨rfl, rfl, rfl, ⟨rfl, rfl⟩, rfl⟩
/-- The three ways a tick is a clock of the timer, and the ways it is none, at both ends of the prescaler's period. -/
theorem witness_TimerCountsItsSelectedClock_clocks :
    let direct : State := { timing with cfg := { tapped with opt := { tapped.opt with tmrSrc := false, prescSrc := true } } }
    let byCore : State := { timing with cfg := tappedByCore }
    (direct.timerTicks .instrClock = true ∧ direct.wdtTicks .instrClock = true ∧ direct.timerTicks .rcClock = false) ∧
    (timing.timerTicks .rcClock = true ∧ timing.timerTicks .instrClock = false ∧ timing.wdtTicks .rcClock = true) ∧
    (byCore.timerTicks .instrClock = true ∧ byCore.timerTicks .rcClock = false) ∧
    { timing with presc := 0xFE }.timerTicks .rcClock = false ∧ { timing with presc := 0x00 }.tapCompletes 1 = false ∧
    { timing with presc := 0x01 }.tapCompletes 1 = true ∧ undogged.feedsPrescaler .rcClock = false := by decide
/-- One state for each clause: a count, no count, an unused mode, a time-out in a used and in an unused mode. -/
theorem witness_TimerCountsItsSelectedClock :
    let s : State := { timing with env := [.event .rcClock] }
    let last : State := { s with wdt3 := 7 }
    s.pins.res = true ∧ s.halted = false ∧ s.tmrRead = false ∧ s.env = .event .rcClock :: [] ∧
    (s.tmrc.ton = true ∧ s.tmrc.tm1 = true ∧ s.tmrc.tm0 = false) ∧ start.tmrc.ton = false ∧ start.tmrc.tm1 = start.tmrc.tm0 ∧
    s.wdtTimesOut .rcClock = false ∧ last.wdtTimesOut .rcClock = true ∧
    ({ last with tmrc := { start.tmrc with ton := true } } : State).timerTicks .rcClock = true := by decide
theorem witness_ReadOfTmrLosesAtMostOneCount : start.tmrRead = false ∧ { start with tmrRead := true }.tmrRead = true := by decide
/-- A clock, and a falling and a rising edge, in the window, with TMR at FFH. -/
theorem witness_ReadOfTmrLosesAtMostOneCount_step :
    let s : State := { timing with tmrRead := true, env := [.event .rcClock] }
    let p : State := { s with tmrc := { te := true, ton := true, tm0 := true, tm1 := false }, env := [.event (.intPad false)] }
    let q : State := { p with tmrc := { p.tmrc with te := false }, pins := { p.pins with int := false }, env := [.event (.intPad true)] }
    (s.pins.res = true ∧ s.tmrRead = true ∧ s.tmrc.ton = true ∧ s.tmrc.tm1 = true ∧ s.tmrc.tm0 = false ∧
      s.timerTicks .rcClock = true ∧ s.wdtTimesOut .rcClock = false ∧ s.tmr.toNat = 255) ∧
    (p.pins.int = !false ∧ p.tmrc.te = !false ∧ p.tmrc.tm1 = false ∧ p.tmrc.tm0 = true ∧ p.env = .event (.intPad false) :: []) ∧
    (q.pins.int = !true ∧ q.tmrc.te = !true ∧ q.env = .event (.intPad true) :: []) := by decide
theorem witness_PadEdgeRequestsAndCounts :
    let s : State := { start with tmrc := { start.tmrc with ton := true, tm0 := true }, env := [.event (.intPad false)] }
    s.pins.res = true ∧ s.halted = false ∧ s.tmrRead = false ∧ s.pins.int = !false ∧ s.env = .event (.intPad false) :: [] ∧
    (s.tmrc.ton && (s.tmrc.te == !false)) = true ∧ s.tmrc.tm1 = false ∧ s.tmrc.tm0 = true ∧
    (start.tmrc.ton && (start.tmrc.te == !false)) = false ∧ start.tmrc.tm1 = start.tmrc.tm0 := by decide
theorem witness_RequestWakesOnlyWhenItRises_pad :
    let s : State := { halted with env := [.event (.intPad false)] }
    let counting : State := { s with tmr := 0xFF, tmrc := { s.tmrc with ton := true, tm0 := true } }
    s.pins.res = true ∧ s.halted = true ∧ s.env = .event (.intPad false) :: [] ∧ s.pins.int = !false ∧
    (s.tmrc.ton && (s.tmrc.te == !false)) = false ∧ s.intc.eif = false ∧
    (counting.tmrc.ton && (counting.tmrc.te == !false)) = true ∧ counting.tmrc.tm1 = false ∧ counting.tmrc.tm0 = true ∧
    counting.tmrRead = false ∧ counting.tmr.toNat = 255 ∧ counting.intc.tf = false ∧ s.tmrc.tm1 = s.tmrc.tm0 ∧
    { halted with pins := { halted.pins with int := false } }.pins.int = !true := by decide
theorem witness_RequestWakesOnlyWhenItRises_timer :
    let s : State := { timing with halted := true, env := [.event .rcClock] }
    let frozen : State := { s with cfg := Config.Device.blank }
    s.pins.res = true ∧ s.halted = true ∧ s.env = .event .rcClock :: [] ∧ s.tmrRead = false ∧ s.wdtTimesOut .rcClock = false ∧
    s.timerTicks .rcClock = true ∧ s.tmrc.ton = true ∧ s.tmrc.tm1 = true ∧ s.tmrc.tm0 = false ∧ s.tmr.toNat = 255 ∧
    s.intc.tf = false ∧ { s with presc := 0xFE }.timerTicks .rcClock = false ∧ start.tmrc.tm1 = start.tmrc.tm0 ∧
    frozen.timerTicks .rcClock = false ∧ frozen.wdtTicks .rcClock = true ∧ frozen.tmrc.ton = true := by decide
theorem witness_PortAFallWakes :
    let s : State := { halted with env := [.event (.portA 0xFF 0xF7)] }
    s.pins.res = true ∧ s.halted = true ∧ s.env = .event (.portA 0xFF 0xF7) :: [] ∧ s.cfg.opt.wake.getLsbD 3 = true ∧
    s.padA.getLsbD 3 = true ∧ { s with pins := { s.pins with drvA := 0xFF, lvlA := 0xF7 } }.padA.getLsbD 3 = false ∧
    (∀ j : Fin 8, s.cfg.opt.wake.getLsbD j.val = false ∨ s.padA.getLsbD j.val = false ∨
      { s with pins := { s.pins with drvA := 0xFF, lvlA := 0xFB } }.padA.getLsbD j.val = true) := by decide
theorem witness_PinsShowLatchOrHighImpedance :
    ∀ j : Fin 8, start.pac.getLsbD j.val = true ∧ { start with pac := 0 }.pac.getLsbD j.val = false := by decide
theorem witness_EventsLeaveTheWorkingRegisters :
    Event.rcClock ≠ .powerUp ∧ step { undogged with env := [.event .rcClock] } = .next undogged := ⟨by decide, rfl⟩

end Sys2Proof.Tests
end

section
/-! PROOFS. The halt, MP and STATUS as data memory, and what events leave unchanged: HaltedCoreWaits (O9), MpAndStatusAsDataMemory (O14),
EventsLeaveTheWorkingRegisters (O60). -/

namespace Sys2Proof.Machine

/-! ### Properties that events keep -/

/-- A property of states kept by all that the two clocks and the edges of the INT/TMR pad are made of. -/
structure ClockClosed (P : State → Prop) : Prop where
  pins : ∀ s v, P s → P (s.setPins v)
  presc : ∀ s v, P s → P (s.setPresc v)
  draws : ∀ s v, P s → P (s.setDraws v)
  requests : ∀ s eif tf, P s → P (raiseRequests eif tf s)
  count : ∀ s, P s → P s.count
  watchdog : ∀ s, P s → P (wdtClock s)

/-- A property of states kept by all that any event but a power-up is made of. -/
structure EventClosed (P : State → Prop) : Prop extends ClockClosed P where
  wake : ∀ s, P s → P s.wake
  resReset : ∀ s, P s → P s.resReset

section
variable {P : State → Prop} {s t : State}

theorem ClockClosed.of_timerClock (hP : ClockClosed P) (h : P s) (hn : timerClock s = .next t) : P t := by
  rcases timerClock_cases s with hs | ⟨-, hs⟩ | ⟨-, hs⟩ <;> rw [hs] at hn <;> cases hn
  · exact h
  · exact hP.requests _ _ _ (hP.count _ h)

theorem ClockClosed.of_padEdge (hP : ClockClosed P) {falling : Bool} (h : P s) (hn : padEdge falling s = .next t) : P t := by
  rcases padEdge_cases falling s with hs | ⟨-, hs⟩ | ⟨-, hs⟩ <;> rw [hs] at hn <;> cases hn
  · exact hP.requests _ _ _ h
  · exact hP.requests _ _ _ (hP.count _ h)

theorem ClockClosed.of_clockBoth (hP : ClockClosed P) {wdt tmr : Bool} (h : P s) (hn : clockBoth wdt tmr s = .next t) : P t :=
  clockBoth_induction hP.watchdog (fun _ _ => hP.of_timerClock) hP.draws h hn

theorem ClockClosed.of_clock (hP : ClockClosed P) {e : Event} (he : e = .instrClock ∨ e = .rcClock) (h : P s)
    (hn : applyEvent e s = .next t) : P t := by
  cases hr : s.pins.res
  · have hs : applyEvent e s = .next s := by rcases he with rfl | rfl <;> simp [applyEvent, hr]
    rw [hs] at hn
    cases hn
    exact h
  · rw [clocks_eq hr he] at hn
    split at hn
    · exact hP.of_clockBoth (hP.presc _ _ h) hn
    · exact hP.of_clockBoth h hn

theorem ClockClosed.of_intPad (hP : ClockClosed P) {level : Bool} (h : P s) (hn : applyEvent (.intPad level) s = .next t) : P t := by
  simp only [applyEvent, intPad] at hn
  split at hn
  · split at hn
    · cases hn
      exact h
    · exact hP.of_padEdge (hP.pins _ _ h) hn
  · cases hn
    exact hP.pins _ _ h

theorem EventClosed.of_portAPads (hP : EventClosed P) (drv lvl : BitVec 8) (h : P s) : P (portAPads drv lvl s) := by
  unfold portAPads
  dsimp only
  split
  · exact hP.wake _ (hP.pins _ _ h)
  · exact hP.pins _ _ h

theorem EventClosed.of_resPin (hP : EventClosed P) (level : Bool) (h : P s) : P (resPin level s) := by
  unfold resPin
  split
  · exact hP.pins _ _ h
  · split
    · exact hP.pins _ _ (hP.resReset _ h)
    · exact h

/-- What a property of states needs to survive any event but a power-up. -/
theorem EventClosed.of_applyEvent (hP : EventClosed P) {e : Event} (he : e ≠ .powerUp) (h : P s)
    (hn : applyEvent e s = .next t) : P t := by
  cases e with
  | instrClock => exact hP.of_clock (.inl rfl) h hn
  | rcClock => exact hP.of_clock (.inr rfl) h hn
  | intPad level => exact hP.of_intPad h hn
  | portA drv lvl =>
    simp only [applyEvent] at hn
    split at hn <;> cases hn
    · exact hP.of_portAPads drv lvl h
    · exact hP.pins _ _ h
  | portB drv lvl | portC drv lvl =>
    cases hn
    exact hP.pins _ _ h
  | resPin level =>
    cases hn
    exact hP.of_resPin level h
  | powerUp => exact absurd rfl he

end

/-! ### Properties that instructions keep -/

/-- A property of states kept by all that any instruction but HALT is made of. -/
structure InstrClosed (P : State → Prop) : Prop where
  read : ∀ l s, P s → P (readEffect l s)
  write : ∀ l v s, P s → P (writeLoc l v s)
  acc : ∀ s v, P s → P (s.setAcc v)
  status : ∀ s v, P s → P (s.setStatus v)
  goto : ∀ s v, P s → P (s.goto v)
  push : ∀ s v, P s → P (s.push v)
  pop : ∀ s, P s → P s.pop
  enable : ∀ s, P s → P s.enableInterrupts
  wdt3 : ∀ s v, P s → P (s.setWdt3 v)

section
variable {P : State → Prop} {m : OperandAddr} {s t : State}

theorem InstrClosed.of_skipIf (hP : InstrClosed P) (b : Bool) (h : P s) : P (s.skipIf b) := by
  cases b
  · exact h
  · exact hP.goto _ _ h

theorem InstrClosed.of_withOperand (hP : InstrClosed P) {k : Byte → State → State} (h : P s) (hn : withOperand m s k = .next t)
    (hk : ∀ v u, P u → P (k v u)) : P t := by
  obtain ⟨-, rfl⟩ := withOperand_eq_next.mp hn
  exact hk _ _ (hP.read _ _ h)

theorem InstrClosed.of_storing (hP : InstrClosed P) {v : Byte} (h : P s) (hn : storing m v s = .next t) : P t := by
  obtain ⟨-, rfl⟩ := storing_eq_next.mp hn
  exact hP.write _ _ _ h

theorem InstrClosed.of_modifying (hP : InstrClosed P) {f : Byte → Byte} (h : P s) (hn : modifying m f s = .next t) : P t := by
  obtain ⟨-, rfl⟩ := modifying_eq_next.mp hn
  exact hP.write _ _ _ (hP.read _ _ h)

theorem InstrClosed.of_modifyingFlags (hP : InstrClosed P) {f : Byte → Byte} {g : Byte → Status} (h : P s)
    (hn : modifyingFlags m f g s = .next t) : P t := by
  obtain ⟨-, -, rfl⟩ := modifyingFlags_eq_next.mp hn
  exact hP.status _ _ (hP.write _ _ _ (hP.read _ _ h))

theorem InstrClosed.of_sumToMem (hP : InstrClosed P) {r : Byte → Sum} (h : P s) (hn : sumToMem m r s = .next t) : P t := by
  unfold sumToMem at hn
  exact hP.of_modifyingFlags h hn

theorem InstrClosed.of_zeroToMem (hP : InstrClosed P) {f : Byte → Byte} (h : P s) (hn : zeroToMem m f s = .next t) : P t := by
  unfold zeroToMem at hn
  exact hP.of_modifyingFlags h hn

theorem InstrClosed.of_modifyingSkip (hP : InstrClosed P) {f : Byte → Byte} (h : P s) (hn : modifyingSkip m f s = .next t) :
    P t := by
  obtain ⟨-, -, rfl⟩ := modifyingSkip_eq_next.mp hn
  exact hP.of_skipIf _ (hP.write _ _ _ (hP.read _ _ h))

theorem InstrClosed.of_returning (hP : InstrClosed P) {k : State → State} (h : P s) (hn : returning k s = .next t)
    (hk : ∀ u, P u → P (k u)) : P t := by
  obtain ⟨-, rfl⟩ := returning_eq_next.mp hn
  exact hk _ (hP.pop _ h)

theorem InstrClosed.of_clrWdt (hP : InstrClosed P) (tmo pd : Bool) (h : P s) : P (s.clearWdt3.writeToPd tmo pd) := by
  have hw : P s.clearWdt3 := by
    unfold State.clearWdt3
    split
    · exact h
    · exact hP.wdt3 _ _ h
  unfold State.writeToPd
  split
  · exact hw
  · exact hP.status _ _ hw

/-- What a property of states needs to survive any instruction but HALT. -/
theorem InstrClosed.of_exec (hP : InstrClosed P) {i : Instr} (hi : i ≠ .halt) (h : P s) (hn : exec i s = .next t) : P t := by
  cases i <;> simp only [exec] at hn
  case addAM | adcAM | subAM | sbcAM | andAM | orAM | xorAM | cplaM | incaM | decaM | rrcaM | rlcaM =>
    exact hP.of_withOperand h hn fun _ _ hu => hP.status _ _ (hP.acc _ _ hu)
  case rraM | rlaM | movAM => exact hP.of_withOperand h hn fun _ _ hu => hP.acc _ _ hu
  case szM | szMi | snzMi => exact hP.of_withOperand h hn fun _ _ hu => hP.of_skipIf _ hu
  case szaM | sizaM | sdzaM => exact hP.of_withOperand h hn fun _ _ hu => hP.of_skipIf _ (hP.acc _ _ hu)
  case addmAM | adcmAM | submAM | sbcmAM => exact hP.of_sumToMem h hn
  case andmAM | ormAM | xormAM | cplM | incM | decM => exact hP.of_zeroToMem h hn
  case rrcM | rlcM => exact hP.of_modifyingFlags h hn
  case rrM | rlM | clrMi | setMi => exact hP.of_modifying h hn
  case sizM | sdzM => exact hP.of_modifyingSkip h hn
  case movMA | clrM | setM => exact hP.of_storing h hn
  case ret => exact hP.of_returning h hn fun _ hu => hu
  case retAx => exact hP.of_returning h hn fun _ hu => hP.acc _ _ hu
  case reti => exact hP.of_returning h hn hP.enable
  case halt => exact absurd rfl hi
  all_goals cases hn
  case addAx | subAx | andAx | orAx | xorAx => exact hP.status _ _ (hP.acc _ _ h)
  case movAx => exact hP.acc _ _ h
  case jmp => exact hP.goto _ _ h
  case call => exact hP.goto _ _ (hP.push _ _ h)
  case nop => exact h
  case clrWdt => exact hP.of_clrWdt _ _ h

end

/-! ### The working registers: what no event but a power-up writes (R60, R61, R248, R250) -/

/-- ACC, MP, RAM, the stack word and the arithmetic flags. -/
structure WorkingRegisters where
  acc : Byte
  mp : BitVec 7
  ram : List Host.Cell
  stack : ProgAddr
  c : Bool
  ac : Bool
  z : Bool
  ov : Bool

/-- The working registers of a state. -/
def State.working (s : State) : WorkingRegisters :=
  { acc := s.acc, mp := s.mp, ram := s.ram, stack := s.stack,
    c := s.status.c, ac := s.status.ac, z := s.status.z, ov := s.status.ov }

theorem State.working_eq_iff {s t : State} :
    t.working = s.working ↔
      t.acc = s.acc ∧ t.mp = s.mp ∧ t.ram = s.ram ∧ t.stack = s.stack ∧ t.status.c = s.status.c ∧
      t.status.ac = s.status.ac ∧ t.status.z = s.status.z ∧ t.status.ov = s.status.ov := by
  simp only [State.working, WorkingRegisters.mk.injEq]

@[simp] theorem raiseRequests_working (eif tf : Bool) (s : State) : (raiseRequests eif tf s).working = s.working := by
  rw [raiseRequests_eq]
  rfl

@[simp] theorem State.count_working (s : State) : s.count.working = s.working := by
  rw [State.count_eq]
  rfl

@[simp] theorem wdtClock_working (s : State) : (wdtClock s).working = s.working := by
  rcases wdtClock_cases s with ⟨-, h⟩ | ⟨-, -, h⟩ | ⟨-, -, h⟩ <;> rw [h] <;> rfl

@[simp] theorem State.resReset_working (s : State) : s.resReset.working = s.working := by
  unfold State.resReset
  split <;> rfl

theorem eventClosed_working (w : WorkingRegisters) : EventClosed (fun s => s.working = w) where
  pins _ _ h := h
  presc _ _ h := h
  draws _ _ h := h
  requests s eif tf h := (raiseRequests_working eif tf s).trans h
  count s h := s.count_working.trans h
  watchdog s h := (wdtClock_working s).trans h
  wake _ h := h
  resReset s h := s.resReset_working.trans h

/-- No event but a power-up writes a working register. -/
theorem step_event_working {s t : State} {e : Event} {rest : List Turn} (he : e ≠ .powerUp) (hs : s.env = .event e :: rest)
    (hn : step s = .next t) : t.working = s.working := by
  rw [step_event hs] at hn
  exact (eventClosed_working s.working).of_applyEvent (s := s.setEnv rest) he rfl hn

/-- Settles O60: the working registers are closed under every event but a power-up. -/
theorem eventsLeaveTheWorkingRegisters : Obligations.EventsLeaveTheWorkingRegisters := by
  intro s t e rest he hs hn
  exact State.working_eq_iff.mp (step_event_working he hs hn)

/-! ### MP and STATUS as data memory (R25, R27) -/

/-- The bits of a packed byte, bit 0 first. -/
theorem packByte_getLsbD (b7 b6 b5 b4 b3 b2 b1 b0 : Bool) (k : Nat) :
    (packByte b7 b6 b5 b4 b3 b2 b1 b0).getLsbD k = [b0, b1, b2, b3, b4, b5, b6, b7].getD k false := by
  by_cases hk : k < 8
  · simp only [packByte, BitVec.getLsbD_append]
    interval_cases k <;> simp
  · rw [BitVec.getLsbD_of_ge _ _ (by omega), List.getD_eq_default _ _ (by simpa using hk)]

/-- STATUS reads its six flags, and 0 in bits 6 and 7 (R27). -/
theorem Status.toByte_getLsbD (st : Status) (k : Nat) :
    st.toByte.getLsbD k = [st.c, st.ac, st.z, st.ov, st.pd, st.tmo].getD k false := by
  rw [Status.toByte, packByte_getLsbD]
  rcases k with _ | _ | _ | _ | _ | _ | _ | _ | k <;> rfl

/-- MP reads with bit 7 set (R25). -/
theorem readValue_mp (s : State) : readValue .mp s = BitVec.ofNat 8 (128 + s.mp.toNat) := by
  have hlt := s.mp.isLt
  apply BitVec.eq_of_toNat_eq
  calc (1#1 ++ s.mp).toNat = 1 <<< 7 ||| s.mp.toNat := BitVec.toNat_append _ _
    _ = 128 + s.mp.toNat := (Nat.two_pow_add_eq_or_of_lt hlt 1).symm
    _ = (BitVec.ofNat 8 (128 + s.mp.toNat)).toNat := by rw [BitVec.toNat_ofNat, Nat.mod_eq_of_lt (by omega)]

/-- A write of MP transfers the low seven bits (R25). -/
theorem writeLoc_mp (v : Byte) (s : State) : writeLoc .mp v s = { s with mp := v.extractLsb' 0 7 } := rfl

/-- Settles O14: the map puts MP at 01H and STATUS at 0AH, and MP is a working register. -/
theorem mpAndStatusAsDataMemory : Obligations.MpAndStatusAsDataMemory := by
  refine ⟨fun m s hm => ?_, fun s t e rest he hs hn => ?_, fun m s hm k => ?_⟩
  · have hl : locate m s = .mp := (locOf_mp _).mpr hm
    rw [operand, hl]
    refine ⟨readValue_mp s, fun v => ⟨_, writeLoc_mp v s, fun k hk => ?_⟩⟩
    simp [hk]
  · obtain ⟨-, hmp, -⟩ := State.working_eq_iff.mp (step_event_working he hs hn)
    exact hmp
  · have hl : locate m s = .status := (locOf_status _).mpr hm
    rw [operand, hl]
    exact s.status.toByte_getLsbD k

/-! ### The halt: what begins it (R45, R235) -/

/-- Whose turn a step is, with the schedule after it (log 7). -/
theorem step_core_or_event (s : State) :
    (∃ rest, s.coreNext rest ∧ step s = coreTurn decode (s.setEnv rest)) ∨
    (∃ e rest, s.env = .event e :: rest ∧ step s = applyEvent e (s.setEnv rest)) := by
  rcases h : s.env with _ | ⟨_ | e, rest⟩
  · exact .inl ⟨[], .inl ⟨h, rfl⟩, step_coreNext (.inl ⟨h, rfl⟩)⟩
  · exact .inl ⟨rest, .inr h, step_core h⟩
  · exact .inr ⟨e, rest, rfl, step_event h⟩

/-- HALT halts, whatever the options hold. -/
theorem execHalt_halted {s t : State} (h : execHalt s = .next t) : t.halted = true := by
  cases h
  rfl

theorem instrClosed_halted (b : Bool) : InstrClosed (fun s => s.halted = b) where
  read l s h := (readEffect_halted l s).trans h
  write l v s h := (writeLoc_halted l v s).trans h
  acc _ _ h := h
  status _ _ h := h
  goto _ _ h := h
  push _ _ h := h
  pop _ h := h
  enable _ h := h
  wdt3 _ _ h := h

/-- No instruction but HALT begins or ends the halt. -/
theorem exec_halted {i : Instr} {s t : State} (hi : i ≠ .halt) (h : exec i s = .next t) : t.halted = s.halted :=
  (instrClosed_halted s.halted).of_exec hi rfl h

/-- While no halt is on, the core's turn begins one only by running HALT. -/
theorem coreTurn_begins_halt {dec : CodeWord → Option Instr} {s t : State} (hs : s.halted = false)
    (hn : coreTurn dec s = .next t) (ht : t.halted = true) : s.pins.res = true ∧ dec (fetch s s.pc) = some .halt := by
  rcases coreTurn_cases dec s with ⟨-, h⟩ | ⟨src, -, -, -, h⟩ | ⟨hr, -, -, -, h⟩ <;> rw [h] at hn
  · cases hn
    simp [hs] at ht
  · cases hn
    rw [interruptEntry_eq] at ht
    simp [hs] at ht
  · obtain ⟨i, hd, hx⟩ := runInstr_eq_next.mp hn
    by_cases hi : i = .halt
    · exact ⟨hr, hi ▸ hd⟩
    · have hk : t.halted = s.halted := exec_halted (s := s.begin) hi hx
      simp [hs, ht] at hk

/-- A request begins no halt. -/
theorem raiseRequests_running_halted {s : State} (h : s.halted = false) (eif tf : Bool) :
    (raiseRequests eif tf s).halted = false := by
  rw [raiseRequests_running h]
  exact h

/-- A watchdog time-out ends the halt, or resets a running chip (R254, R262). -/
theorem wdtTimeout_halted (s : State) : (wdtTimeout s).halted = false := by
  unfold wdtTimeout
  split <;> rfl

/-- RES low ends the halt (R303). -/
theorem State.resReset_halted (s : State) : s.resReset.halted = false := by
  unfold State.resReset
  split <;> rfl

/-- No event begins the halt. -/
theorem eventClosed_running : EventClosed (fun s => s.halted = false) where
  pins _ _ h := h
  presc _ _ h := h
  draws _ _ h := h
  requests _ eif tf h := raiseRequests_running_halted h eif tf
  count s h := by
    rw [State.count_eq]
    exact h
  watchdog s h := by
    unfold wdtClock
    split
    · exact wdtTimeout_halted s
    · exact h
  wake _ _ := rfl
  resReset s _ := s.resReset_halted

theorem applyEvent_running {e : Event} {s t : State} (h : s.halted = false) (hn : applyEvent e s = .next t) :
    t.halted = false := by
  by_cases he : e = .powerUp
  · subst he
    cases hn
    rfl
  · exact eventClosed_running.of_applyEvent he h hn

/-- Only HALT begins the halt, at a turn of the core with RES high. -/
theorem step_begins_halt {s t : State} (hs : s.halted = false) (hn : step s = .next t) (ht : t.halted = true) :
    s.pins.res = true ∧ decode (fetch s s.pc) = some .halt ∧ ∃ rest, s.coreNext rest := by
  rcases step_core_or_event s with ⟨rest, hc, h⟩ | ⟨e, rest, -, h⟩ <;> rw [h] at hn
  · obtain ⟨hr, hd⟩ := coreTurn_begins_halt (s := s.setEnv rest) hs hn ht
    exact ⟨hr, hd, rest, hc⟩
  · have hf : t.halted = false := applyEvent_running (s := s.setEnv rest) hs hn
    simp [hf] at ht

/-! ### The halt: what happens in it, and what ends it (R250 to R254, R303) -/

/-- In halt mode the core waits. -/
theorem coreTurn_of_halted {s : State} (h : s.halted = true) (dec : CodeWord → Option Instr) : coreTurn dec s = .next s := by
  rcases coreTurn_cases dec s with ⟨-, hc⟩ | ⟨_, -, hh, -⟩ | ⟨-, hh, -⟩
  · exact hc
  all_goals simp [h] at hh

/-- In halt mode the instruction clock stands still (R250). -/
theorem applyEvent_instrClock_of_halted {s : State} (h : s.halted = true) : applyEvent .instrClock s = .next s := by
  simp [applyEvent, instrClock, h]

/-- `t` shows a sign that the halt of `s` may have ended: a watchdog time-out, or a request flag that rose. -/
def State.EndsHalt (s t : State) : Prop :=
  (t.pc = 0 ∧ t.status.tmo = true) ∨ (s.intc.eif = false ∧ t.intc.eif = true) ∨ (s.intc.tf = false ∧ t.intc.tf = true)

/-- In `t` the halt of `s` goes on with no request flag changed, or `t` shows what ended it. -/
def State.KeepsOrEndsHalt (s t : State) : Prop :=
  (t.halted = true ∧ t.intc.eif = s.intc.eif ∧ t.intc.tf = s.intc.tf) ∨ s.EndsHalt t

/-- A watchdog time-out shows in the program counter and TO (R254, R262). -/
theorem wdtTimeout_shows (s : State) : (wdtTimeout s).pc = 0 ∧ (wdtTimeout s).status.tmo = true := by
  unfold wdtTimeout
  split <;> exact ⟨rfl, rfl⟩

theorem State.KeepsOrEndsHalt.of_wdtClock {s t : State} (h : s.KeepsOrEndsHalt t) : s.KeepsOrEndsHalt (wdtClock t) := by
  unfold wdtClock
  split
  · exact .inr (.inl (wdtTimeout_shows t))
  · exact h

/-- Requests end a halt by a flag that rises, and else let it go on (R253). -/
theorem State.KeepsOrEndsHalt.of_raiseRequests {s t : State} (h : s.KeepsOrEndsHalt t) (eif tf : Bool) :
    s.KeepsOrEndsHalt (raiseRequests eif tf t) := by
  rw [raiseRequests_eq]
  rcases h with ⟨hh, he, hf⟩ | hz | ⟨he, he'⟩ | ⟨hf, hf'⟩
  · by_cases hre : s.intc.eif = false ∧ eif = true
    · exact .inr (.inr (.inl ⟨hre.1, by simp [hre.2]⟩))
    by_cases hrf : s.intc.tf = false ∧ tf = true
    · exact .inr (.inr (.inr ⟨hrf.1, by simp [hrf.2]⟩))
    refine .inl ⟨?_, ?_, ?_⟩ <;> simp only [hh, he, hf] <;> grind
  · exact .inr (.inl hz)
  · exact .inr (.inr (.inl ⟨he, by simp [he']⟩))
  · exact .inr (.inr (.inr ⟨hf, by simp [hf']⟩))

/-- Clocks and edges of the INT/TMR pad end a halt only by a time-out or a request flag that rises. -/
theorem clockClosed_keepsOrEndsHalt (s : State) : ClockClosed s.KeepsOrEndsHalt where
  pins _ _ h := h
  presc _ _ h := h
  draws _ _ h := h
  requests _ eif tf h := h.of_raiseRequests eif tf
  count t h := by
    rw [State.count_eq]
    exact h
  watchdog _ h := h.of_wdtClock

/-- What ends the halt, event by event. -/
theorem applyEvent_ends_halt {e : Event} {s t : State} (hs : s.halted = true) (hn : applyEvent e s = .next t)
    (ht : t.halted = false) :
    e = .powerUp ∨ e = .resPin false ∨ (∃ drv lvl, e = .portA drv lvl) ∨ s.EndsHalt t := by
  have hself : s.KeepsOrEndsHalt s := .inl ⟨hs, rfl, rfl⟩
  have hends (h : s.KeepsOrEndsHalt t) : s.EndsHalt t := h.resolve_left fun hk => by simp [hk.1] at ht
  have hsame (h : t.halted = s.halted) : False := by simp [h, hs] at ht
  cases e with
  | instrClock => exact .inr (.inr (.inr (hends ((clockClosed_keepsOrEndsHalt s).of_clock (.inl rfl) hself hn))))
  | rcClock => exact .inr (.inr (.inr (hends ((clockClosed_keepsOrEndsHalt s).of_clock (.inr rfl) hself hn))))
  | intPad level => exact .inr (.inr (.inr (hends ((clockClosed_keepsOrEndsHalt s).of_intPad hself hn))))
  | portA drv lvl => exact .inr (.inr (.inl ⟨drv, lvl, rfl⟩))
  | portB drv lvl | portC drv lvl =>
    cases hn
    exact (hsame rfl).elim
  | resPin level =>
    cases level
    · exact .inr (.inl rfl)
    · cases hn
      exact (hsame rfl).elim
  | powerUp => exact .inl rfl

/-- The halt ends only at an event: a power-up, RES low, a watchdog time-out, port A, or a request flag that rises. -/
theorem step_ends_halt {s t : State} (hs : s.halted = true) (hn : step s = .next t) (ht : t.halted = false) :
    ∃ e rest, s.env = .event e :: rest ∧
      (e = .powerUp ∨ e = .resPin false ∨ (∃ drv lvl, e = .portA drv lvl) ∨ s.EndsHalt t) := by
  rcases step_core_or_event s with ⟨rest, -, h⟩ | ⟨e, rest, he, h⟩ <;> rw [h] at hn
  · rw [coreTurn_of_halted (s := s.setEnv rest) hs] at hn
    cases hn
    simp [hs] at ht
  · exact ⟨e, rest, he, applyEvent_ends_halt (s := s.setEnv rest) hs hn ht⟩

/-- A power-up, and RES going low, leave the chip out of halt mode (R60). -/
theorem step_reset_halted {s t : State} {rest : List Turn} (hn : step s = .next t)
    (he : s.env = .event .powerUp :: rest ∨ (s.pins.res = true ∧ s.env = .event (.resPin false) :: rest)) :
    t.halted = false := by
  rcases he with he | ⟨hr, he⟩ <;> rw [step_event he] at hn <;> cases hn
  · rfl
  · simp [resPin, hr, State.resReset_halted]

/-- Settles O9: HALT alone begins the halt, the core and the instruction clock stand still in it, and each thing that ends it is listed. -/
theorem haltedCoreWaits : Obligations.HaltedCoreWaits := by
  refine ⟨fun _ _ => execHalt_halted, fun _ _ => step_begins_halt, fun s hs => ⟨fun he => ?_, fun rest he => ?_, fun rest he => ?_⟩,
    fun s t hs hn ht => ?_, fun _ _ _ => step_reset_halted, wdtTimeout_halted⟩
  · rw [step_nil he, coreTurn_of_halted hs]
  · exact (step_core he).trans (coreTurn_of_halted (s := s.setEnv rest) hs decode)
  · exact (step_event he).trans (applyEvent_instrClock_of_halted (s := s.setEnv rest) hs)
  · obtain ⟨e, rest, he, hp | hr | ha | hz | hi | hf⟩ := step_ends_halt hs hn ht
    · exact ⟨e, rest, he, .inl hp⟩
    · exact ⟨e, rest, he, .inr (.inl hr)⟩
    · exact ⟨e, rest, he, .inr (.inr (.inr (.inl ha)))⟩
    · exact ⟨e, rest, he, .inr (.inr (.inl hz))⟩
    · exact ⟨e, rest, he, .inr (.inr (.inr (.inr (.inl hi))))⟩
    · exact ⟨e, rest, he, .inr (.inr (.inr (.inr (.inr hf))))⟩

end Sys2Proof.Machine
end

section
/-! PROOFS. A store to `[m]` at every effective address, and the refusal of every instruction from 40H on: OperandWriteFollowsTheMap (O13). -/

namespace Sys2Proof.Machine

/-! ### The forms on an operand that cannot be accessed (R75, D8) -/

section
variable {m : OperandAddr} {s : State}

theorem withOperand_beyond (h : accessible m s = false) (k : Byte → State → State) :
    withOperand m s k = .refused .pointerOutOfRange := by
  simp [withOperand, h]

theorem storing_beyond (h : accessible m s = false) (v : Byte) : storing m v s = .refused .pointerOutOfRange := by
  simp [storing, h]

theorem modifying_beyond (h : accessible m s = false) (f : Byte → Byte) :
    modifying m f s = .refused .pointerOutOfRange := by
  simp [modifying, h]

theorem modifyingFlags_beyond (h : accessible m s = false) (f : Byte → Byte) (g : Byte → Status) :
    modifyingFlags m f g s = .refused .pointerOutOfRange := by
  simp [modifyingFlags, h]

theorem modifyingSkip_beyond (h : accessible m s = false) (f : Byte → Byte) :
    modifyingSkip m f s = .refused .pointerOutOfRange := by
  simp [modifyingSkip, h]

theorem accessible_eq_false_iff : accessible m s = false ↔ 0x40 ≤ (effectiveAddr m s).toNat := by
  rw [← Bool.not_eq_true, accessible_iff, Nat.not_lt]

/-- Every instruction is one of the forms in its `[m]`, so each is refused where `[m]` cannot be accessed. -/
theorem exec_beyond {i : Instr} (hi : i.memOperand = some m) (h : accessible m s = false) :
    exec i s = .refused .pointerOutOfRange := by
  cases i <;> cases hi <;> rw [exec]
  case movMA | clrM | setM => exact storing_beyond h _
  case rrM | rlM | clrMi | setMi =>
    simp only [execRrM, execRlM, execClrMi, execSetMi, modifying_beyond h]
  case addmAM | adcmAM | submAM | sbcmAM =>
    simp only [execAddmAM, execAdcmAM, execSubmAM, execSbcmAM, sumToMem, modifyingFlags_beyond h]
  case andmAM | ormAM | xormAM | cplM | incM | decM =>
    simp only [execAndmAM, execOrmAM, execXormAM, execCplM, execIncM, execDecM, zeroToMem, modifyingFlags_beyond h]
  case rrcM | rlcM => simp only [execRrcM, execRlcM, modifyingFlags_beyond h]
  case sizM | sdzM => simp only [execSizM, execSdzM, modifyingSkip_beyond h]
  all_goals exact withOperand_beyond h _

end

/-! ### What a write is in numbers -/

/-- A PCL write keeps bit 8 of the counter, that is, its page of 256 words (R24, D7). -/
theorem pclTarget_eq_ofNat (pc : ProgAddr) (v : Byte) :
    pclTarget pc v = BitVec.ofNat 9 (pc.toNat / 256 * 256 + v.toNat) := by
  have hpc := pc.isLt
  have hv := v.isLt
  apply BitVec.eq_of_toNat_eq
  calc (pc.extractLsb' 8 1 ++ v).toNat = (pc.toNat / 256) <<< 8 ||| v.toNat := by
        rw [BitVec.toNat_append, BitVec.extractLsb'_toNat, Nat.shiftRight_eq_div_pow, Nat.mod_eq_of_lt (by omega)]
    _ = pc.toNat / 256 * 256 + v.toNat := by rw [← Nat.shiftLeft_add_eq_or_of_lt hv, Nat.shiftLeft_eq]
    _ = (BitVec.ofNat 9 (pc.toNat / 256 * 256 + v.toNat)).toNat := by
        rw [BitVec.toNat_ofNat, Nat.mod_eq_of_lt (by omega)]

theorem writeLoc_pcl (v : Byte) (s : State) : writeLoc .pcl v s =
    { s with pc := BitVec.ofNat 9 (s.pc.toNat / 256 * 256 + v.toNat), cycles := s.cycles + 1 } := by
  rw [← pclTarget_eq_ofNat]
  rfl

/-- A latch bit reaches its pin only where the control bit is 0 (R275). -/
theorem pinView_latch (ctl old new pull : Bool) :
    pinView ctl new pull = if ctl then pinView ctl old pull else .drives new := by
  cases ctl <;> rfl

/-- The pins of port A after a store to its latch. -/
theorem viewA_store (s : State) (v : Byte) (j : Fin 8) : State.viewA { s with paLatch := v } j =
    if s.pac.getLsbD j then s.viewA j else .drives (v.getLsbD j) :=
  pinView_latch _ _ _ _

/-- Bit `j` of a two-bit latch is bit `j` of the byte stored to it. -/
theorem getLsbD_ofNat_two (v : Byte) (j : Fin 2) : (BitVec.ofNat 2 v.toNat).getLsbD j = v.getLsbD j := by
  rw [BitVec.getLsbD_ofNat, decide_eq_true j.isLt, Bool.true_and, BitVec.testBit_toNat]

/-- The pins of port B after a store to its latch. -/
theorem viewB_store (s : State) (v : Byte) (j : Fin 2) : State.viewB { s with pbLatch := BitVec.ofNat 2 v.toNat } j =
    if s.pbc.getLsbD j then s.viewB j else .drives (v.getLsbD j) := by
  rw [← getLsbD_ofNat_two]
  exact pinView_latch _ _ _ _

/-- The pins of port C after a store to its latch. -/
theorem viewC_store (s : State) (v : Byte) (j : Fin 2) : State.viewC { s with pcLatch := BitVec.ofNat 2 v.toNat } j =
    if s.pcc.getLsbD j then s.viewC j else .drives (v.getLsbD j) := by
  rw [← getLsbD_ofNat_two]
  exact pinView_latch _ _ _ _

/-- A store to RAM changes one byte, keeps the canonical form, and leaves every other part of the state (R41, R77). -/
theorem writeLoc_ram_spec {a : Nat} {s : State} (ha : Memory.isRam a = true) (hwf : Memory.wf s.ram = true) (v : Byte) :
    writeLoc (.ram a) v s = { s with ram := (writeLoc (.ram a) v s).ram } ∧
    Memory.wf (writeLoc (.ram a) v s).ram = true ∧
    ∀ b, Memory.read (writeLoc (.ram a) v s).ram b = if b = a then v else Memory.read s.ram b := by
  refine ⟨rfl, writeLoc_wf _ v s hwf fun b hb => ?_, fun b => ?_⟩
  · cases hb
    exact ha
  · simp only [writeLoc_read _ v s hwf, Loc.ram.injEq, eq_comm]

/-! ### The map, address by address (R77) -/

/-- A store to `[m]` is a write at the location that `[m]` names. -/
theorem writeLoc_of_locate {m : OperandAddr} {v : Byte} {s t : State} {l : Loc} (hl : locate m s = l)
    (ht : writeLoc l v s = t) : writeLoc (locate m s) v s = t := by
  rw [hl, ht]

/-- Settles O13: the map names a location at each address, and a write there changes the part that stands at it. -/
theorem operandWriteFollowsTheMap : Obligations.OperandWriteFollowsTheMap := by
  intro m v s e t
  refine ⟨?null, ?mp, ?acc, ?pcl, ?status, ?intc, ?tmr, ?tmrc, ?pa, ?pac, ?pb, ?pbc, ?pc, ?pcc, ?ram, ?unused, ?beyond⟩
  case null => exact fun h => writeLoc_of_locate ((locOf_null _).mpr h) rfl
  case mp => exact fun h => writeLoc_of_locate ((locOf_mp _).mpr h) (writeLoc_mp v s)
  case acc => exact fun h => writeLoc_of_locate ((locOf_acc _).mpr h) rfl
  case pcl => exact fun h => writeLoc_of_locate ((locOf_pcl _).mpr h) (writeLoc_pcl v s)
  case status => exact fun h => writeLoc_of_locate ((locOf_status _).mpr h) rfl
  case intc => exact fun h => writeLoc_of_locate ((locOf_intc _).mpr h) rfl
  case tmr => exact fun h => writeLoc_of_locate ((locOf_tmr _).mpr h) rfl
  case tmrc => exact fun h => writeLoc_of_locate ((locOf_tmrc _).mpr h) rfl
  case pa =>
    intro h
    have ht : t = { s with paLatch := v } := writeLoc_of_locate ((locOf_pa _).mpr h) rfl
    exact ⟨ht, fun j => ht ▸ viewA_store s v j⟩
  case pac => exact fun h => writeLoc_of_locate ((locOf_pac _).mpr h) rfl
  case pb =>
    intro h
    have ht : t = { s with pbLatch := BitVec.ofNat 2 v.toNat } := writeLoc_of_locate ((locOf_pb _).mpr h) rfl
    exact ⟨ht, fun j => ht ▸ viewB_store s v j⟩
  case pbc => exact fun h => writeLoc_of_locate ((locOf_pbc _).mpr h) rfl
  case pc =>
    intro h
    have ht : t = { s with pcLatch := BitVec.ofNat 2 v.toNat } := writeLoc_of_locate ((locOf_pc _).mpr h) rfl
    exact ⟨ht, fun j => ht ▸ viewC_store s v j⟩
  case pcc => exact fun h => writeLoc_of_locate ((locOf_pcc _).mpr h) rfl
  case ram =>
    intro hlo hhi hwf
    have hl : locate m s = .ram e := (locOf_ram _ _).mpr ⟨hlo, hhi, rfl⟩
    have ht : t = writeLoc (.ram e) v s := writeLoc_of_locate hl rfl
    rw [ht]
    exact writeLoc_ram_spec (locate_ram_isRam hl) hwf v
  case unused => exact fun h => writeLoc_of_locate ((locOf_unused _).mpr h) rfl
  case beyond => exact fun h i hi => exec_beyond hi (accessible_eq_false_iff.mpr h)

end Sys2Proof.Machine
end

section
/-! PROOFS. The six immediate instructions, from the word fetched to the state after: ImmediateInstructionStep (O6). The step onto a decoded
instruction and the adder in numbers serve every instruction. -/

namespace Sys2Proof.Machine

/-! ### From the word fetched to the meaning that runs -/

/-- Where the core runs, a step is the meaning of the instruction that the fetched word decodes to (R22, R72, R247). -/
theorem step_runs {s : State} {rest : List Turn} {i : Instr} (hn : s.coreNext rest) (hr : s.runsNext = true)
    (hd : decode (fetch s s.pc) = some i) : step s = exec i (s.setEnv rest).begin := by
  simp only [State.runsNext, Bool.and_eq_true, Bool.not_eq_true'] at hr
  obtain ⟨⟨⟨hres, hhalt⟩, hext⟩, htmr⟩ := hr
  have hturn : coreTurn decode (s.setEnv rest) = runInstr decode (s.setEnv rest) := by
    rcases coreTurn_cases decode (s.setEnv rest) with ⟨hstop, -⟩ | ⟨src, -, -, hacc, -⟩ | ⟨-, -, -, -, h⟩
    · simp [hres, hhalt] at hstop
    · cases src
      · exact absurd hacc (ne_true_of_eq_false hext)
      · exact absurd hacc (ne_true_of_eq_false htmr)
    · exact h
  have hfetch : decode (fetch (s.setEnv rest) (s.setEnv rest).pc) = some i := hd
  rw [step_coreNext hn, hturn, runInstr, hfetch]

/-- A word is of format I where its upper six bits are 001000 to 001111; its low byte is the operand (R103). -/
theorem decode_of_formatI {w : CodeWord} {op : BitVec 6} {x : Byte} (hop : op.toNat / 8 = 1)
    (hw : w.toNat = op.toNat * 256 + x.toNat) : decode w = decodeI op x := by
  have hx := x.isLt
  have hfield (k n : Nat) : (w.extractLsb' k n).toNat = w.toNat / 2 ^ k % 2 ^ n := by
    rw [BitVec.extractLsb'_toNat, Nat.shiftRight_eq_div_pow]
  have hfmt : (w.extractLsb' 12 2).toNat = 0 := by rw [hfield]; omega
  have hop7 : (w.extractLsb' 7 7).toNat ≠ 0 := by rw [hfield]; omega
  have hop3 : (w.extractLsb' 11 3).toNat = 1 := by rw [hfield]; omega
  have hop6 : w.extractLsb' 8 6 = op := BitVec.eq_of_toNat_eq (by rw [hfield]; omega)
  have hoperand : w.extractLsb' 0 8 = x := BitVec.eq_of_toNat_eq (by rw [hfield]; omega)
  rw [decode, if_neg, if_neg, if_neg, if_pos, hop6, hoperand] <;> rw [← BitVec.toNat_inj]
  · exact hop3
  · exact hop7
  all_goals simp [hfmt]

/-- A step onto a word of format I, whose number is its upper six bits times 256 plus the operand. -/
theorem step_formatI {s : State} {rest : List Turn} {i : Instr} (op : BitVec 6) (x : Byte) (hn : s.coreNext rest)
    (hr : s.runsNext = true) (hop : op.toNat / 8 = 1) (hi : decodeI op x = some i)
    (hw : (fetch s s.pc).toNat = op.toNat * 256 + x.toNat) : step s = exec i (s.setEnv rest).begin :=
  step_runs hn hr ((decode_of_formatI hop hw).trans hi)

/-! ### The adder in numbers (R14, R28 to R31) -/

/-- The carries out of bits 6 and 7 differ exactly where the signed sum leaves the range of a byte (R29). -/
theorem add8_ov_iff (a b : Byte) (cin : Bool) :
    (add8 a b cin).ov = true ↔ a.toInt + b.toInt + cin.toNat < -128 ∨ 127 < a.toInt + b.toInt + cin.toNat := by
  have ha := a.isLt
  have hb := b.isLt
  have hcin := cin.toNat_le
  simp only [add8, bne_iff_ne, ne_eq, decide_eq_decide, BitVec.toInt_eq_toNat_cond]
  split_ifs <;> omega

/-- What `add8` answers is the sum of ACC, the operand and the carry (R130). -/
theorem add8_addsToAcc (s : State) (v : Byte) (cin : Bool) :
    AddsToAcc s v cin.toNat (add8 s.acc v cin).value (s.status.withSum (add8 s.acc v cin)) := by
  refine ⟨BitVec.toNat_ofNat _ _, ?c, ?ac, add8_ov_iff _ _ _, ?z, rfl, rfl⟩
  case c => exact decide_eq_true_iff
  case ac => exact decide_eq_true_iff
  case z => exact decide_eq_true_iff.trans BitVec.toNat_inj.symm

/-- To add the complement with a carry is to subtract with the opposite borrow (R130, R139). -/
theorem AddsToAcc.subtractsFromAcc {s : State} {v r : Byte} {st : Status} (cin : Bool)
    (h : AddsToAcc s (~~~v) cin.toNat r st) : SubtractsFromAcc s v (1 - cin.toNat) r st := by
  obtain ⟨hr, hc, hac, hov, hz, hpd, htmo⟩ := h
  have hv := v.isLt
  have hcin := cin.toNat_le
  have hnat : (~~~v).toNat = 255 - v.toNat := BitVec.toNat_not
  have hint : (~~~v).toInt = -v.toInt - 1 := by
    simp only [BitVec.toInt_eq_toNat_cond, hnat]
    split_ifs <;> omega
  rw [hnat] at hr hc hac
  rw [hint] at hov
  refine ⟨hr.trans ?_, hc.trans ?_, hac.trans ?_, hov.trans ?_, hz, hpd, htmo⟩ <;> omega

/-- `add8` on the complement of the operand is the subtraction of the operand from ACC, with the carry as no borrow (R130, R139). -/
theorem add8_not_subtractsFromAcc (s : State) (v : Byte) (cin : Bool) :
    SubtractsFromAcc s v (1 - cin.toNat) (add8 s.acc (~~~v) cin).value (s.status.withSum (add8 s.acc (~~~v) cin)) :=
  (add8_addsToAcc s (~~~v) cin).subtractsFromAcc cin

/-! ### The six immediate instructions -/

/-- Settles O6: each word is of format I, and its meaning reads and writes ACC and STATUS alone. -/
theorem immediateInstructionStep : Obligations.ImmediateInstructionStep := by
  intro s rest x hn hr ends endsZ
  refine ⟨fun hw => ⟨_, _, ?add, add8_addsToAcc s x false⟩, fun hw => ⟨_, _, ?sub, add8_not_subtractsFromAcc s x true⟩,
    fun hw => ⟨_, ?and, fun _ _ => BitVec.getLsbD_and⟩, fun hw => ⟨_, ?or, fun _ _ => BitVec.getLsbD_or⟩,
    fun hw => ⟨_, ?xor, fun _ _ => BitVec.getLsbD_xor⟩, fun hw => ?mov⟩
  case add => exact step_formatI 0b001011#6 x hn hr rfl rfl hw
  case sub => exact step_formatI 0b001010#6 x hn hr rfl rfl hw
  case and => exact step_formatI 0b001110#6 x hn hr rfl rfl hw
  case or => exact step_formatI 0b001101#6 x hn hr rfl rfl hw
  case xor => exact step_formatI 0b001100#6 x hn hr rfl rfl hw
  case mov => exact step_formatI 0b001111#6 x hn hr rfl rfl hw

end Sys2Proof.Machine
end

section
/-! PROOFS. JMP and NOP, from the word fetched to the state after: JumpAndNopStep (O7). The format A decoding, and the incremented counter in
numbers, serve every instruction that loads or passes the counter. -/

namespace Sys2Proof.Machine

/-- A word is of format A where its upper three bits are 100 or 101 and the next two are 0; its low nine bits are the address (R103). -/
theorem decode_of_formatA {w : CodeWord} {op : BitVec 3} {addr : ProgAddr} (hop : op.toNat / 2 = 2)
    (hw : w.toNat = op.toNat * 2048 + addr.toNat) : decode w = decodeA op addr := by
  have haddr := addr.isLt
  have hfield (k n : Nat) : (w.extractLsb' k n).toNat = w.toNat / 2 ^ k % 2 ^ n := by
    rw [BitVec.extractLsb'_toNat, Nat.shiftRight_eq_div_pow]
  have hfmt : w.extractLsb' 12 2 = 0b10#2 := BitVec.eq_of_toNat_eq (by rw [hfield, BitVec.toNat_ofNat]; omega)
  have hzero : w.extractLsb' 9 2 = 0#2 := BitVec.eq_of_toNat_eq (by rw [hfield, BitVec.toNat_ofNat]; omega)
  have hop3 : w.extractLsb' 11 3 = op := BitVec.eq_of_toNat_eq (by rw [hfield]; omega)
  have htarget : w.extractLsb' 0 9 = addr := BitVec.eq_of_toNat_eq (by rw [hfield]; omega)
  rw [decode, hfmt, if_neg (by decide), if_pos rfl, if_pos hzero, hop3, htarget]

/-- A step onto a word of format A, whose number is its upper three bits times 2048 plus the address. -/
theorem step_formatA {s : State} {rest : List Turn} {i : Instr} (op : BitVec 3) (addr : ProgAddr) (hn : s.coreNext rest)
    (hr : s.runsNext = true) (hop : op.toNat / 2 = 2) (hi : decodeA op addr = some i)
    (hw : (fetch s s.pc).toNat = op.toNat * 2048 + addr.toNat) : step s = exec i (s.setEnv rest).begin :=
  step_runs hn hr ((decode_of_formatA hop hw).trans hi)

/-- The word 0000H is NOP (R104). -/
theorem decode_of_toNat_eq_zero {w : CodeWord} (hw : w.toNat = 0) : decode w = some .nop := by
  have hzero : w = encode .nop := BitVec.eq_of_toNat_eq hw
  rw [hzero]
  rfl

/-- The counter past a word is the next address, and 000H past 1FFH (R22, D33). -/
theorem pc_add_one_eq_ofNat (pc : ProgAddr) : pc + 1 = BitVec.ofNat 9 ((pc.toNat + 1) % 512) :=
  BitVec.eq_of_toNat_eq (by simp [BitVec.toNat_add])

/-- Settles O7: 2800H + addr is of format A with op 101, whose meaning loads the counter; 0000H is NOP, whose meaning is the fetch alone. -/
theorem jumpAndNopStep : Obligations.JumpAndNopStep := by
  intro s rest addr hn hr
  refine ⟨fun hw => ?jmp, fun hw => ?nop⟩
  case jmp => exact step_formatA 0b101#3 addr hn hr rfl rfl hw
  case nop =>
    rw [← pc_add_one_eq_ofNat]
    exact step_runs hn hr (decode_of_toNat_eq_zero hw)

end Sys2Proof.Machine
end

section
/-! PROOFS. The entry of an interrupt at a turn of the core, by source: InterruptEntryAtTheBoundary (O35). -/

namespace Sys2Proof.Machine

/-- A source is acceptable exactly where it is requested and enabled and the stack has room (R245, R246). -/
theorem State.acceptable_iff {s : State} {src : Source} :
    s.acceptable src = true ↔ s.intc.requests src = true ∧ s.stackFull = false := by
  rw [State.acceptable, Bool.and_eq_true, Bool.not_eq_true']

/-- The core's turn enters an acceptable source, the timer only where the external source is not acceptable (R247, R249). -/
theorem coreTurn_enters {dec : CodeWord → Option Instr} {s : State} {src : Source} (hres : s.pins.res = true)
    (hhalt : s.halted = false) (hacc : s.acceptable src = true) (hfirst : src = .timer → s.acceptable .external = false) :
    coreTurn dec s = .next (interruptEntry src s) := by
  cases src with
  | external => simp [coreTurn, hres, hhalt, hacc]
  | timer => simp [coreTurn, hres, hhalt, hacc, hfirst rfl]

/-- The step at a boundary where a source is entered, whatever the schedule (R247, R248, R249). -/
theorem step_enters {s : State} {rest : List Turn} {src : Source} (hn : s.coreNext rest) (hres : s.pins.res = true)
    (hhalt : s.halted = false) (hacc : s.acceptable src = true) (hfirst : src = .timer → s.acceptable .external = false) :
    step s = .next (interruptEntry src (s.setEnv rest)) := by
  rw [step_coreNext hn]
  exact coreTurn_enters hres hhalt hacc hfirst

/-- Settles O35: with EMI set and room on the stack the enable bit and the request flag decide; the external source comes first. -/
theorem interruptEntryAtTheBoundary : Obligations.InterruptEntryAtTheBoundary := by
  intro s rest hn hres hhalt hroom hemi
  refine ⟨fun heei heif => ?external, fun hext heti htf => ?timer⟩
  case external =>
    have hacc : s.acceptable .external = true := State.acceptable_iff.mpr ⟨by simp [Intc.requests, hemi, heei, heif], hroom⟩
    exact step_enters hn hres hhalt hacc nofun
  case timer =>
    have hacc : s.acceptable .timer = true := State.acceptable_iff.mpr ⟨by simp [Intc.requests, hemi, heti, htf], hroom⟩
    have hnone : s.acceptable .external = false := by
      rcases hext with h | h <;> simp [State.acceptable, Intc.requests, h]
    exact step_enters hn hres hhalt hacc fun _ => hnone

end Sys2Proof.Machine
end

section
/-! PROOFS. The watchdog's eighth tick outside halt: WatchdogTimeoutInNormalOperation (O50). -/

namespace Sys2Proof.Machine

/-- The watchdog reset of column (2) of R60, whole: what it leaves unnamed it keeps, PD and the arithmetic flags among it (R302, R61). -/
theorem State.wdtReset_eq (s : State) :
    s.wdtReset = { s with
      pc := 0, stackFull := false, halted := false, wdt3 := 0, status := { s.status with tmo := true },
      intc := Intc.reset, tmrc := Tmrc.reset, paLatch := 0xFF#8, pac := 0xFF#8, pbLatch := 3, pbc := 3, pcLatch := 3, pcc := 3,
      presc := Config.prescAfterReset s.draws, draws := s.draws + 1, tmrRead := false } := rfl

/-- From WDT3 = 7 outside halt, the tick of the tap is the time-out, a chip reset (R260, R262, R263). -/
theorem wdtClock_timeout_of_running {s : State} (hhalt : s.halted = false) (hfull : s.wdt3 = 7) : wdtClock s = s.wdtReset := by
  rcases wdtClock_cases s with ⟨hcount, -⟩ | ⟨-, -, hreset⟩ | ⟨-, hwarm, -⟩
  · exact absurd hfull hcount
  · exact hreset
  · simp [hhalt] at hwarm

/-- Settles O50: the tick is the watchdog reset, and each conjunct reads one field of the state it leaves. -/
theorem watchdogTimeoutInNormalOperation : Obligations.WatchdogTimeoutInNormalOperation := by
  intro s hhalt hfull
  rw [wdtClock_timeout_of_running hhalt hfull, State.wdtReset_eq]
  simp

end Sys2Proof.Machine
end

section
/-! PROOFS. A power-up from any state: PowerUpInitialises (O48). What a chip reset holds serves RES and the watchdog too. -/

namespace Sys2Proof.Machine

/-- What columns (1) to (4) of R60 share is the condition in which RES holds the chip. -/
theorem State.chipReset_inReset (s : State) : s.chipReset.InReset where
  pc := rfl
  stackFull := rfl
  halted := rfl
  wdt3 := rfl
  intc := rfl
  tmrc := rfl
  portA := ⟨rfl, rfl⟩
  portB := ⟨rfl, rfl⟩
  portC := ⟨rfl, rfl⟩

/-- A power-up is a chip reset in every part that has an initial condition: its free values go to other parts (R60, R61, R301). -/
theorem State.powerUp_inReset (s : State) : s.powerUp.InReset := { s.chipReset_inReset with }

/-- TO and PD are 0 after a power-up, whatever the flags drawn (R306, R310). -/
theorem State.powerUp_toPd (s : State) : s.powerUp.status.tmo = false ∧ s.powerUp.status.pd = false := ⟨rfl, rfl⟩

/-- The free bytes of RAM after a power-up are in canonical form (R41, log 4). -/
theorem State.powerUp_ram_wf (s : State) : Memory.wf s.powerUp.ram = true := Memory.wf_fill _

/-- What a power-up leaves: program memory, the device, the pads and the schedule (R71, R281, log 9). -/
theorem State.powerUp_frame (s : State) :
    s.powerUp.prom = s.prom ∧ s.powerUp.cfg = s.cfg ∧ s.powerUp.pins = s.pins ∧ s.powerUp.env = s.env :=
  ⟨rfl, rfl, rfl, rfl⟩

/-- A power-up is taken in every state: neither the halt nor RES low holds it back (R301). -/
theorem step_powerUp {s : State} {rest : List Turn} (he : s.env = .event .powerUp :: rest) :
    step s = .next (s.setEnv rest).powerUp :=
  step_event he

/-- Settles O48: the step is the power-up reset, which is a chip reset with TO and PD cleared and RAM filled. -/
theorem powerUpInitialises : Obligations.PowerUpInitialises := by
  intro s t rest he hn
  rw [step_powerUp he] at hn
  cases hn
  obtain ⟨hpc, hstack, hhalt, hwdt, hintc, htmrc, ⟨hpa, hpac⟩, ⟨hpb, hpbc⟩, ⟨hpcl, hpcc⟩⟩ := (s.setEnv rest).powerUp_inReset
  obtain ⟨hto, hpd⟩ := (s.setEnv rest).powerUp_toPd
  exact ⟨hpc, hto, hpd, hintc, htmrc, hpa, hpac, hpb, hpbc, hpcl, hpcc, hstack, hhalt, hwdt,
    (s.setEnv rest).powerUp_ram_wf, (s.setEnv rest).powerUp_frame⟩

end Sys2Proof.Machine
end

section
/-! PROOFS. The reference encoding: the decoder on each format, the round trip in both directions, and the reserved words:
DecodeReadsTheReferenceWords (O1), DecodeOfEncodeIsTheInstruction (O2), DecodedWordIsItsOwnEncoding (O3), ReservedWordsAreRefused (O4). -/

namespace Sys2Proof.Machine

/-! ### The fields of a word, in numbers -/

/-- A field of a word is a quotient and a remainder of its number. -/
theorem field_toNat (w : CodeWord) (k n : Nat) : (w.extractLsb' k n).toNat = w.toNat / 2 ^ k % 2 ^ n := by
  rw [BitVec.extractLsb'_toNat, Nat.shiftRight_eq_div_pow]

/-- A field equals a constant exactly where the numbers do. -/
theorem field_eq_iff {w : CodeWord} {k n : Nat} {c : BitVec n} : w.extractLsb' k n = c ↔ w.toNat / 2 ^ k % 2 ^ n = c.toNat := by
  rw [← BitVec.toNat_inj, field_toNat]

/-- Two bit strings side by side, in numbers. -/
theorem toNat_append_eq {n k : Nat} (a : BitVec n) (b : BitVec k) : (a ++ b).toNat = a.toNat * 2 ^ k + b.toNat := by
  rw [BitVec.toNat_append, ← Nat.shiftLeft_add_eq_or_of_lt b.isLt, Nat.shiftLeft_eq]

theorem wordM_toNat (op : BitVec 7) (m : OperandAddr) : (wordM op m).toNat = op.toNat * 128 + m.toNat := by
  rw [wordM, toNat_append_eq, toNat_append_eq, BitVec.toNat_ofNat]
  omega

theorem wordI_toNat (op : BitVec 6) (x : Byte) : (wordI op x).toNat = op.toNat * 256 + x.toNat :=
  toNat_append_eq op x

theorem wordA_toNat (op : BitVec 3) (addr : ProgAddr) : (wordA op addr).toNat = op.toNat * 2048 + addr.toNat := by
  rw [wordA, toNat_append_eq, toNat_append_eq, BitVec.toNat_ofNat]
  omega

theorem wordB_toNat (op : BitVec 4) (i : BitIndex) (m : OperandAddr) :
    (wordB op i m).toNat = op.toNat * 1024 + i.toNat * 128 + m.toNat := by
  rw [wordB, toNat_append_eq, toNat_append_eq, toNat_append_eq, BitVec.toNat_ofNat]
  omega

/-! ### The decoder, format by format (R103) -/

/-- A word of format M is read by its `op7` where that is none of the formats Z, I, A and B. -/
theorem decode_wordM {op : BitVec 7} {m : OperandAddr} (hz : op.toNat ≠ 0) (hi : op.toNat / 16 ≠ 1) (hab : op.toNat < 64) :
    decode (wordM op m) = decodeM op m := by
  have hm := m.isLt
  have hw := wordM_toNat op m
  have hop : (wordM op m).extractLsb' 7 7 = op := field_eq_iff.mpr (by omega)
  have hoperand : (wordM op m).extractLsb' 0 6 = m := field_eq_iff.mpr (by omega)
  rw [decode, if_neg, if_neg, if_neg, if_neg, if_pos, hop, hoperand] <;> rw [field_eq_iff, BitVec.toNat_ofNat] <;> omega

theorem decode_wordI {op : BitVec 6} {x : Byte} (hop : op.toNat / 8 = 1) : decode (wordI op x) = decodeI op x :=
  decode_of_formatI hop (wordI_toNat op x)

theorem decode_wordA {op : BitVec 3} {addr : ProgAddr} (hop : op.toNat / 2 = 2) : decode (wordA op addr) = decodeA op addr :=
  decode_of_formatA hop (wordA_toNat op addr)

/-- A word of format B is one whose upper two bits are 11. -/
theorem decode_wordB {op : BitVec 4} {i : BitIndex} {m : OperandAddr} (hop : op.toNat / 4 = 3) :
    decode (wordB op i m) = decodeB op i m := by
  have hm := m.isLt
  have hi := i.isLt
  have hw := wordB_toNat op i m
  have hop4 : (wordB op i m).extractLsb' 10 4 = op := field_eq_iff.mpr (by omega)
  have hbit : (wordB op i m).extractLsb' 7 3 = i := field_eq_iff.mpr (by omega)
  have hoperand : (wordB op i m).extractLsb' 0 6 = m := field_eq_iff.mpr (by omega)
  rw [decode, if_pos, if_pos, hop4, hbit, hoperand] <;> rw [field_eq_iff, BitVec.toNat_ofNat] <;> omega

/-! ### From the instruction to its word and back -/

/-- Settles O1: the words are run through the decoder. -/
theorem decodeReadsTheReferenceWords : Obligations.DecodeReadsTheReferenceWords := by
  unfold Obligations.DecodeReadsTheReferenceWords
  decide

/-- Settles O2: each instruction's word is of one format, whose reader answers the instruction. -/
theorem decodeOfEncodeIsTheInstruction : Obligations.DecodeOfEncodeIsTheInstruction := by
  intro i _
  cases i
  case addAx | subAx | andAx | orAx | xorAx | movAx | retAx => exact decode_wordI (by decide)
  case jmp | call => exact decode_wordA (by decide)
  case clrMi | setMi | szMi | snzMi => exact decode_wordB (by decide)
  case ret | reti | nop | clrWdt | halt => rfl
  all_goals exact decode_wordM (by decide) (by decide) (by decide)

/-- What format M reads is the instruction of that `op7` and operand. -/
theorem encode_of_decodeM {op : BitVec 7} {m : OperandAddr} {i : Instr} (h : decodeM op m = some i) : encode i = wordM op m := by
  unfold decodeM at h
  split at h <;> cases h <;> rfl

theorem encode_of_decodeI {op : BitVec 6} {x : Byte} {i : Instr} (h : decodeI op x = some i) : encode i = wordI op x := by
  unfold decodeI at h
  split at h <;> cases h <;> rfl

theorem encode_of_decodeA {op : BitVec 3} {addr : ProgAddr} {i : Instr} (h : decodeA op addr = some i) :
    encode i = wordA op addr := by
  unfold decodeA at h
  split at h <;> cases h <;> rfl

theorem encode_of_decodeB {op : BitVec 4} {b : BitIndex} {m : OperandAddr} {i : Instr} (h : decodeB op b m = some i) :
    encode i = wordB op b m := by
  unfold decodeB at h
  split at h <;> cases h <;> rfl

theorem encode_of_decodeZ {low : BitVec 7} {i : Instr} (h : decodeZ low = some i) : encode i = 0#7 ++ low := by
  unfold decodeZ at h
  split at h <;> cases h <;> rfl

/-- Settles O3: in each format the fields read and the bits required to be fixed make up the word again. -/
theorem decodedWordIsItsOwnEncoding : Obligations.DecodedWordIsItsOwnEncoding := by
  intro w i h
  have hw := w.isLt
  unfold decode at h
  simp only [field_eq_iff, BitVec.toNat_ofNat] at h
  apply BitVec.eq_of_toNat_eq
  split_ifs at h with hb hgap ha hgap hz hi hgap
  · rw [encode_of_decodeB h, wordB_toNat, field_toNat, field_toNat, field_toNat]
    omega
  · rw [encode_of_decodeA h, wordA_toNat, field_toNat, field_toNat]
    omega
  · rw [encode_of_decodeZ h, toNat_append_eq, BitVec.toNat_ofNat, field_toNat]
    omega
  · rw [encode_of_decodeI h, wordI_toNat, field_toNat, field_toNat]
    omega
  · rw [encode_of_decodeM h, wordM_toNat, field_toNat, field_toNat]
    omega

/-! ### The reserved words (R120) -/

theorem decodeZ_eq_none_iff : ∀ low : BitVec 7, decodeZ low = none ↔ 5 ≤ low.toNat := by decide

theorem decodeI_eq_none_iff {op : BitVec 6} (x : Byte) (hop : op.toNat / 8 = 1) : decodeI op x = none ↔ op.toNat = 8 := by
  have hop0 : ∀ op : BitVec 6, op.toNat / 8 = 1 → ((decodeI op 0).isNone = true ↔ op.toNat = 8) := by decide
  have hx : (decodeI op x).isNone = (decodeI op 0).isNone := by
    unfold decodeI
    split <;> rfl
  rw [← Option.isNone_iff_eq_none, hx, hop0 op hop]

theorem decodeA_ne_none {op : BitVec 3} (addr : ProgAddr) (hop : op.toNat / 2 = 2) : decodeA op addr ≠ none := by
  have hop0 : ∀ op : BitVec 3, op.toNat / 2 = 2 → (decodeA op 0).isNone = false := by decide
  have haddr : (decodeA op addr).isNone = (decodeA op 0).isNone := by
    unfold decodeA
    split <;> rfl
  rw [ne_eq, ← Option.isNone_iff_eq_none, haddr, hop0 op hop]
  decide

theorem decodeB_ne_none {op : BitVec 4} (i : BitIndex) (m : OperandAddr) (hop : op.toNat / 4 = 3) : decodeB op i m ≠ none := by
  have hop0 : ∀ op : BitVec 4, op.toNat / 4 = 3 → (decodeB op 0 0).isNone = false := by decide
  have hfields : (decodeB op i m).isNone = (decodeB op 0 0).isNone := by
    unfold decodeB
    split <;> rfl
  rw [ne_eq, ← Option.isNone_iff_eq_none, hfields, hop0 op hop]
  decide

/-- The values of `op7` that no instruction of format M has, beside those of the other formats. -/
theorem decodeM_eq_none_iff {op : BitVec 7} (m : OperandAddr) (hz : op.toNat ≠ 0) (hi : op.toNat / 16 ≠ 1) (hab : op.toNat < 64) :
    decodeM op m = none ↔ op.toNat = 15 ∨ op.toNat / 2 = 17 ∨ (56 ≤ op.toNat ∧ op.toNat < 62) := by
  have hop0 : ∀ op : BitVec 7, op.toNat ≠ 0 → op.toNat / 16 ≠ 1 → op.toNat < 64 →
      ((decodeM op 0).isNone = true ↔ op.toNat = 15 ∨ op.toNat / 2 = 17 ∨ (56 ≤ op.toNat ∧ op.toNat < 62)) := by decide
  have hm : (decodeM op m).isNone = (decodeM op 0).isNone := by
    unfold decodeM
    split <;> rfl
  rw [← Option.isNone_iff_eq_none, hm, hop0 op hz hi hab]

/-- Exactly the words R120 lists decode to nothing: in each format the unread bits, or the values of `op` without an instruction. -/
theorem decode_eq_none_iff (w : CodeWord) : decode w = none ↔
    (0x0005 ≤ w.toNat ∧ w.toNat ≤ 0x007F) ∨
    (0x0080 ≤ w.toNat ∧ w.toNat < 0x0780 ∧ w.toNat / 64 % 2 = 1) ∨
    (0x0780 ≤ w.toNat ∧ w.toNat ≤ 0x07FF) ∨
    (0x0800 ≤ w.toNat ∧ w.toNat ≤ 0x08FF) ∨
    (0x1000 ≤ w.toNat ∧ w.toNat < 0x2000 ∧ w.toNat / 64 % 2 = 1) ∨
    (0x1100 ≤ w.toNat ∧ w.toNat ≤ 0x11FF) ∨
    (0x1C00 ≤ w.toNat ∧ w.toNat ≤ 0x1EFF) ∨
    (0x2000 ≤ w.toNat ∧ w.toNat < 0x3000 ∧ w.toNat / 512 % 4 ≠ 0) ∨
    (0x3000 ≤ w.toNat ∧ w.toNat / 64 % 2 = 1) := by
  have hw := w.isLt
  unfold decode
  simp only [field_eq_iff, BitVec.toNat_ofNat]
  -- In turn: format B and its gaps, A and its gaps, Z, I, M and its gaps.
  split_ifs with hb hgap ha hgap hz hi hgap
  · have hop : (w.extractLsb' 10 4).toNat / 4 = 3 := by rw [field_toNat]; omega
    simp only [decodeB_ne_none _ _ hop, false_iff]
    omega
  · simp only [true_iff]
    omega
  · have hop : (w.extractLsb' 11 3).toNat / 2 = 2 := by rw [field_toNat]; omega
    simp only [decodeA_ne_none _ hop, false_iff]
    omega
  · simp only [true_iff]
    omega
  · rw [decodeZ_eq_none_iff, field_toNat]
    omega
  · have hop : (w.extractLsb' 8 6).toNat / 8 = 1 := by rw [field_toNat]; omega
    rw [decodeI_eq_none_iff _ hop, field_toNat]
    omega
  · have hopz : (w.extractLsb' 7 7).toNat ≠ 0 := by rw [field_toNat]; omega
    have hopi : (w.extractLsb' 7 7).toNat / 16 ≠ 1 := by rw [field_toNat]; omega
    have hopab : (w.extractLsb' 7 7).toNat < 64 := by rw [field_toNat]; omega
    rw [decodeM_eq_none_iff _ hopz hopi hopab, field_toNat]
    omega
  · simp only [true_iff]
    omega

/-- Where the core runs, its step is the fetch, the decoding and the execution (R22, R72, R247). -/
theorem step_runInstr {s : State} {rest : List Turn} (hn : s.coreNext rest) (hr : s.runsNext = true) :
    step s = runInstr decode (s.setEnv rest) := by
  simp only [State.runsNext, Bool.and_eq_true, Bool.not_eq_true'] at hr
  obtain ⟨⟨⟨hres, hhalt⟩, hext⟩, htmr⟩ := hr
  have hext' : (s.setEnv rest).acceptable .external = false := hext
  have htmr' : (s.setEnv rest).acceptable .timer = false := htmr
  rw [step_coreNext hn]
  simp [coreTurn, hres, hhalt, hext', htmr']

/-- Settles O4: the list is the decoder's, and a fetch of what it does not read ends the run. -/
theorem reservedWordsAreRefused : Obligations.ReservedWordsAreRefused := by
  refine ⟨decode_eq_none_iff, fun s rest hn hr hd => ?_⟩
  have hfetch : decode (fetch (s.setEnv rest) (s.setEnv rest).pc) = none := hd
  rw [step_runInstr hn hr, runInstr, hfetch]

end Sys2Proof.Machine
end

section
/-! PROOFS. The memory operand: OperandReadFollowsTheMap (O11), ReadingTmrOpensTheWindow (O12), IndirectAccessGoesThroughMp (O15). -/

namespace Sys2Proof.Machine

/-! ### What a read answers, bit by bit (R76) -/

/-- INTC reads its five bits, and 0 in bits 3, 6 and 7 (R36). -/
theorem Intc.toByte_getLsbD (i : Intc) (k : Nat) :
    i.toByte.getLsbD k = [i.emi, i.eei, i.eti, false, i.eif, i.tf].getD k false := by
  rw [Intc.toByte, packByte_getLsbD]
  rcases k with _ | _ | _ | _ | _ | _ | _ | _ | k <;> rfl

/-- TMRC reads its four bits, and 0 in bits 0, 1, 2 and 5 (R38). -/
theorem Tmrc.toByte_getLsbD (t : Tmrc) (k : Nat) :
    t.toByte.getLsbD k = [false, false, false, t.te, t.ton, false, t.tm0, t.tm1].getD k false := by
  rw [Tmrc.toByte, packByte_getLsbD]

/-- A port reads its latch at an output and its pad at an input: what drives the pad, or undriven the pull-high or the floating level
(R39, R40, R275, log 9). -/
theorem portRead_getLsbD {n j : Nat} (drv lvl ctl latch pull : BitVec n) (hj : j < n) :
    (portRead drv lvl ctl latch pull).getLsbD j = if ctl.getLsbD j then
      (if drv.getLsbD j then lvl.getLsbD j else pull.getLsbD j || lvl.getLsbD j) else latch.getLsbD j := by
  simp only [portRead, padLevels, BitVec.getLsbD_or, BitVec.getLsbD_and, BitVec.getLsbD_not, decide_eq_true hj, Bool.true_and]
  cases ctl.getLsbD j <;> cases drv.getLsbD j <;> simp

/-- A two-bit port reads as a port in bits 1 and 0, and 0 above (R40, D10). -/
theorem portRead_zeroExtend_getLsbD (drv lvl ctl latch pull : BitVec 2) (j : Nat) :
    ((portRead drv lvl ctl latch pull).zeroExtend 8).getLsbD j = if ctl.getLsbD j then
      (if drv.getLsbD j then lvl.getLsbD j else pull.getLsbD j || lvl.getLsbD j) else latch.getLsbD j := by
  by_cases hj : j < 2
  · rw [BitVec.getLsbD_setWidth, decide_eq_true (by omega : j < 8), Bool.true_and, portRead_getLsbD _ _ _ _ _ hj]
  · simp [BitVec.getLsbD_of_ge _ j (Nat.not_lt.mp hj)]

/-- The operand is what reading the location that `[m]` names answers. -/
theorem operand_of_locate {m : OperandAddr} {s : State} {l : Loc} (hl : locate m s = l) : operand m s = readValue l s := by
  rw [operand, hl]

/-- Settles O11: the map names a location at each address, and a read there answers the part that stands at it. -/
theorem operandReadFollowsTheMap : Obligations.OperandReadFollowsTheMap := by
  intro m s
  refine ⟨rfl, accessible_iff, ?null, ?mp, ?acc, ?pcl, ?status, ?intc, ?tmr, ?tmrc, ?pa, ?pac, ?pb, ?pbc, ?pc, ?pcc, ?ram, ?unused⟩
  case null => exact fun h => operand_of_locate ((locOf_null _).mpr h)
  case mp =>
    intro h
    have hmp := s.mp.isLt
    rw [operand_of_locate ((locOf_mp _).mpr h), readValue_mp, BitVec.toNat_ofNat]
    omega
  case acc => exact fun h => operand_of_locate ((locOf_acc _).mpr h)
  case pcl =>
    intro h
    rw [operand_of_locate ((locOf_pcl _).mpr h), readValue, BitVec.extractLsb'_toNat, Nat.shiftRight_zero]
  case status =>
    intro h
    simp only [operand_of_locate ((locOf_status _).mpr h), readValue, Status.toByte_getLsbD]
    exact ⟨rfl, rfl, rfl, rfl, rfl, rfl, rfl, rfl⟩
  case intc =>
    intro h
    simp only [operand_of_locate ((locOf_intc _).mpr h), readValue, Intc.toByte_getLsbD]
    exact ⟨rfl, rfl, rfl, rfl, rfl, rfl, rfl, rfl⟩
  case tmr => exact fun h => operand_of_locate ((locOf_tmr _).mpr h)
  case tmrc =>
    intro h
    simp only [operand_of_locate ((locOf_tmrc _).mpr h), readValue, Tmrc.toByte_getLsbD]
    exact ⟨rfl, rfl, rfl, rfl, rfl, rfl, rfl, rfl⟩
  case pa =>
    intro h j hj
    rw [operand_of_locate ((locOf_pa _).mpr h)]
    exact portRead_getLsbD _ _ _ _ _ hj
  case pac => exact fun h => operand_of_locate ((locOf_pac _).mpr h)
  case pb =>
    intro h j
    rw [operand_of_locate ((locOf_pb _).mpr h)]
    exact portRead_zeroExtend_getLsbD _ _ _ _ _ j
  case pbc =>
    intro h
    rw [operand_of_locate ((locOf_pbc _).mpr h)]
    exact BitVec.toNat_setWidth_of_le (by decide)
  case pc =>
    intro h j
    rw [operand_of_locate ((locOf_pc _).mpr h)]
    exact portRead_zeroExtend_getLsbD _ _ _ _ _ j
  case pcc =>
    intro h
    rw [operand_of_locate ((locOf_pcc _).mpr h)]
    exact BitVec.toNat_setWidth_of_le (by decide)
  case ram => exact fun hlo hhi => operand_of_locate ((locOf_ram _ _).mpr ⟨hlo, hhi, rfl⟩)
  case unused => exact fun h => operand_of_locate ((locOf_unused _).mpr h)

/-! ### The side effect of a read (R84, R271) -/

/-- Settles O12: the only read with a side effect is of TMR, while it counts. -/
theorem readingTmrOpensTheWindow : Obligations.ReadingTmrOpensTheWindow := by
  refine fun m s => ⟨fun hm hton => ?_, fun h => ?_⟩
  · have hl : locate m s = .tmr := (locOf_tmr _).mpr hm
    rw [afterRead, hl, readEffect, if_pos hton]
    rfl
  · rcases readEffect_cases (locate m s) s with hs | ⟨hl, hton, -⟩
    · exact hs
    · rcases h with hm | hoff
      · exact absurd ((locOf_tmr _).mp hl) hm
      · simp [hton] at hoff

/-! ### Two operands that name one location (R75) -/

section
variable {m n : OperandAddr} {s : State}

theorem accessible_congr (h : locate n s = locate m s) : accessible n s = accessible m s := by
  rw [accessible, accessible, h]

theorem operand_congr (h : locate n s = locate m s) : operand n s = operand m s := by
  rw [operand, operand, h]

theorem afterRead_congr (h : locate n s = locate m s) : afterRead n s = afterRead m s := by
  rw [afterRead, afterRead, h]

theorem withOperand_congr (h : locate n s = locate m s) (k : Byte → State → State) : withOperand n s k = withOperand m s k := by
  rw [withOperand, withOperand, accessible_congr h, operand_congr h, afterRead_congr h]

theorem storing_congr (h : locate n s = locate m s) (v : Byte) : storing n v s = storing m v s := by
  rw [storing, storing, accessible_congr h, h]

theorem modifying_congr (h : locate n s = locate m s) (f : Byte → Byte) : modifying n f s = modifying m f s := by
  rw [modifying, modifying, accessible_congr h, operand_congr h, afterRead_congr h, h]

theorem modifyingFlags_congr (h : locate n s = locate m s) (f : Byte → Byte) (g : Byte → Status) :
    modifyingFlags n f g s = modifyingFlags m f g s := by
  rw [modifyingFlags, modifyingFlags, accessible_congr h, operand_congr h, afterRead_congr h, h]

theorem modifyingSkip_congr (h : locate n s = locate m s) (f : Byte → Byte) : modifyingSkip n f s = modifyingSkip m f s := by
  rw [modifyingSkip, modifyingSkip, accessible_congr h, operand_congr h, afterRead_congr h, h]

/-- An instruction reaches its `[m]` through the location it names alone. -/
theorem exec_withMemOperand {i : Instr} (hi : i.memOperand = some m) (h : locate n s = locate m s) :
    exec (i.withMemOperand n) s = exec i s := by
  cases i <;> cases hi <;> rw [Instr.withMemOperand, exec, exec]
  case movMA | clrM | setM => exact storing_congr h _
  case rrM | rlM | clrMi | setMi => exact modifying_congr h _
  case addmAM | adcmAM | submAM | sbcmAM =>
    simp only [execAddmAM, execAdcmAM, execSubmAM, execSbcmAM, sumToMem, modifyingFlags_congr h]
  case andmAM | ormAM | xormAM | cplM | incM | decM =>
    simp only [execAndmAM, execOrmAM, execXormAM, execCplM, execIncM, execDecM, zeroToMem, modifyingFlags_congr h]
  case rrcM | rlcM => simp only [execRrcM, execRlcM, modifyingFlags_congr h]
  case sizM | sdzM => exact modifyingSkip_congr h _
  all_goals exact withOperand_congr h _

end

theorem effectiveAddr_zero (s : State) : effectiveAddr 0 s = s.mp := if_pos rfl

/-- A direct operand, 01H to 3FH, is its own address (R74). -/
theorem effectiveAddr_direct {n : OperandAddr} (hn : n ≠ 0) (s : State) : effectiveAddr n s = n.zeroExtend 7 := if_neg hn

/-- The direct operand of MP's value names what `[00H]` names, for MP in 01H to 3FH (R75). -/
theorem locate_direct_of_mp {s : State} (hpos : 0 < s.mp.toNat) (hlt : s.mp.toNat < 0x40) :
    locate (BitVec.ofNat 6 s.mp.toNat) s = locate 0 s := by
  have hval : (BitVec.ofNat 6 s.mp.toNat).toNat = s.mp.toNat := by rw [BitVec.toNat_ofNat]; omega
  have hne : BitVec.ofNat 6 s.mp.toNat ≠ 0 := fun h => by
    rw [h] at hval
    exact absurd hval (by simp; omega)
  have haddr : (BitVec.ofNat 6 s.mp.toNat).zeroExtend 7 = s.mp :=
    BitVec.eq_of_toNat_eq ((BitVec.toNat_setWidth_of_le (by decide)).trans hval)
  rw [locate, locate, effectiveAddr_direct hne, effectiveAddr_zero, haddr]

/-- Settles O15: `[00H]` names the location MP points to, refused from 40H on, and is the null location for MP = 00H. -/
theorem indirectAccessGoesThroughMp : Obligations.IndirectAccessGoesThroughMp := by
  refine ⟨fun i s hi hpos hlt => ?_, fun i s hi hge => ?_, fun s v hz => ?_⟩
  · exact (exec_withMemOperand hi (locate_direct_of_mp hpos hlt)).symm
  · exact exec_beyond hi (accessible_eq_false_iff.mpr (by rwa [effectiveAddr_zero]))
  · have hl : locate 0 s = .null := (locOf_null _).mpr (by rwa [effectiveAddr_zero])
    refine ⟨?_, operand_of_locate hl, by rw [hl]; rfl⟩
    rw [accessible, hl]
    decide

end Sys2Proof.Machine
end

section
/-! PROOFS. What each instruction leaves, to ACC, to `[m]`, and by a skip: O16 to O27, O29 to O32. -/

namespace Sys2Proof.Machine

/-! ### Results in one piece

The flags of a result are computed from STATUS before the instruction, which a read leaves alone. -/

section
variable {m : OperandAddr} {s : State}

/-- A sum to ACC, after a read of `[m]` (R130). -/
theorem sumToAcc_afterRead (r : Sum) :
    sumToAcc r (afterRead m s) = { afterRead m s with acc := r.value, status := s.status.withSum r } := by
  rw [sumToAcc, afterRead_status]
  rfl

/-- A sum to `[m]` (R130, R141). -/
theorem sumToMem_next (h : accessible m s = true) (hl : locate m s ≠ .status) (r : Byte → Sum) :
    sumToMem m r s = .next { writeLoc (locate m s) (r (operand m s)).value (afterRead m s) with
      status := s.status.withSum (r (operand m s)) } :=
  modifyingFlags_next h hl _ _

/-- A result to ACC with Z, after a read of `[m]` (R30). -/
theorem zeroToAcc_afterRead (v : Byte) :
    zeroToAcc v (afterRead m s) = { afterRead m s with acc := v, status := { s.status with z := decide (v = 0) } } := by
  rw [zeroToAcc, afterRead_status]
  rfl

/-- A result to `[m]` with Z (R30). -/
theorem zeroToMem_next (h : accessible m s = true) (hl : locate m s ≠ .status) (f : Byte → Byte) :
    zeroToMem m f s = .next { writeLoc (locate m s) (f (operand m s)) (afterRead m s) with
      status := { s.status with z := decide (f (operand m s) = 0) } } :=
  modifyingFlags_next h hl _ _

/-! ### Additions and subtractions -/

/-- An addition to ACC of an operand that can be accessed, with the carry `c` (R131, R134). -/
theorem addToAcc_result (h : accessible m s = true) (c : Bool) :
    ∃ r st, (withOperand m s fun v t => sumToAcc (add8 s.acc v c) t) = .next { afterRead m s with acc := r, status := st } ∧
      AddsToAcc s (operand m s) c.toNat r st :=
  ⟨_, _, by rw [withOperand_next h, sumToAcc_afterRead], add8_addsToAcc s (operand m s) c⟩

/-- A subtraction from ACC of an operand that can be accessed, with the borrow 1 - `c` (R137, R139). -/
theorem subtractFromAcc_result (h : accessible m s = true) (c : Bool) :
    ∃ r st, (withOperand m s fun v t => sumToAcc (add8 s.acc (~~~v) c) t) = .next { afterRead m s with acc := r, status := st } ∧
      SubtractsFromAcc s (operand m s) (1 - c.toNat) r st :=
  ⟨_, _, by rw [withOperand_next h, sumToAcc_afterRead], add8_not_subtractsFromAcc s (operand m s) c⟩

/-- An addition to `[m]` (R132, R135). -/
theorem addToMem_result (h : accessible m s = true) (hl : locate m s ≠ .status) (c : Bool) :
    ∃ r st, sumToMem m (fun v => add8 s.acc v c) s = .next { writeLoc (locate m s) r (afterRead m s) with status := st } ∧
      AddsToAcc s (operand m s) c.toNat r st :=
  ⟨_, _, sumToMem_next h hl _, add8_addsToAcc s (operand m s) c⟩

/-- A subtraction from ACC to `[m]` (R138, R140). -/
theorem subtractToMem_result (h : accessible m s = true) (hl : locate m s ≠ .status) (c : Bool) :
    ∃ r st, sumToMem m (fun v => add8 s.acc (~~~v) c) s = .next { writeLoc (locate m s) r (afterRead m s) with status := st } ∧
      SubtractsFromAcc s (operand m s) (1 - c.toNat) r st :=
  ⟨_, _, sumToMem_next h hl _, add8_not_subtractsFromAcc s (operand m s) c⟩

end

/-- Settles O16: the four forms with `[m]` read it and add to ACC; the two immediate forms add their own byte. -/
theorem arithmeticToAccResult : Obligations.ArithmeticToAccResult := by
  refine ⟨fun m s h => ⟨?add, ?adc, ?sub, ?sbc⟩, fun x s => ⟨?addx, ?subx⟩⟩
  case add => exact addToAcc_result h false
  case adc => exact addToAcc_result h s.status.c
  case sub => exact subtractFromAcc_result h true
  case sbc => exact subtractFromAcc_result h s.status.c
  case addx => exact ⟨_, _, rfl, add8_addsToAcc s x false⟩
  case subx => exact ⟨_, _, rfl, add8_not_subtractsFromAcc s x true⟩

/-- Settles O17: the sum or difference is stored, and the flags are those of the sum. -/
theorem arithmeticToMemoryResult : Obligations.ArithmeticToMemoryResult := by
  refine fun m s h hl => ⟨?addm, ?adcm, ?subm, ?sbcm⟩
  case addm => exact addToMem_result h hl false
  case adcm => exact addToMem_result h hl s.status.c
  case subm => exact subtractToMem_result h hl true
  case sbcm => exact subtractToMem_result h hl s.status.c

/-! ### STATUS as destination (R79) -/

/-- Settles O18: the twelve are `modifyingFlags`, which refuses STATUS; the nine are the other forms that store. -/
theorem flagWriterOnStatusIsRefused : Obligations.FlagWriterOnStatusIsRefused := by
  intro m s hm
  have hl : locate m s = .status := (locOf_status _).mpr hm
  have ha : accessible m s = true := accessible_iff.mpr (by omega)
  have hpcl : locate m s ≠ .pcl := by
    rw [hl]
    decide
  refine ⟨?refused, ?run, fun b => ?bits⟩
  case refused =>
    simp only [List.forall_mem_cons, exec_addmAM, exec_adcmAM, exec_submAM, exec_sbcmAM, exec_andmAM, exec_ormAM, exec_xormAM,
      exec_cplM, exec_incM, exec_decM, exec_rrcM, exec_rlcM, execAddmAM, execAdcmAM, execSubmAM, execSbcmAM, execAndmAM,
      execOrmAM, execXormAM, execCplM, execIncM, execDecM, execRrcM, execRlcM, sumToMem, zeroToMem, modifyingFlags_status hl]
    simp
  case run =>
    simp only [List.forall_mem_cons, exec_movMA, exec_clrM, exec_setM, exec_rrM, exec_rlM, exec_sizM, exec_sdzM, execMovMA, execClrM,
      execSetM, execRrM, execRlM, execSizM, execSdzM, storing_next ha, modifying_next ha, modifyingSkip_next ha hpcl]
    simp
  case bits =>
    simp only [exec_clrMi, exec_setMi, execClrMi, execSetMi, modifying_next ha]
    simp

/-! ### Logic, increment, decrement -/

section
variable {m : OperandAddr} {s : State}

/-- A logic result to ACC of an operand that can be accessed. -/
theorem zeroToAcc_result (h : accessible m s = true) (f : Byte → Byte) :
    (withOperand m s fun v t => zeroToAcc (f v) t) =
      .next { afterRead m s with acc := f (operand m s), status := { s.status with z := decide (f (operand m s) = 0) } } := by
  rw [withOperand_next h, zeroToAcc_afterRead]

/-- Bit `k` of a complement (R160, R161). -/
theorem complement_getLsbD {v : Byte} {k : Nat} (hk : k < 8) : (~~~v).getLsbD k = !v.getLsbD k := by
  rw [BitVec.getLsbD_not, decide_eq_true hk, Bool.true_and]

/-- An increment, modulo 256 (R171, R172). -/
theorem increment_toNat (v : Byte) : (v + 1).toNat = (v.toNat + 1) % 256 := BitVec.toNat_add v 1

/-- A decrement, modulo 256 (R173, R174). -/
theorem decrement_toNat (v : Byte) : (v - 1).toNat = (v.toNat + 255) % 256 := by
  rw [BitVec.toNat_sub, Nat.add_comm]
  rfl

end

/-- Settles O19: each result is the bitwise operation, and Z tells whether it is 0. -/
theorem logicToAccResult : Obligations.LogicToAccResult := by
  refine ⟨fun m s h => ⟨?and, ?or, ?xor, ?cpl⟩, fun x s => ⟨?andx, ?orx, ?xorx⟩⟩
  case and => exact ⟨_, zeroToAcc_result h fun v => s.acc &&& v, fun _ _ => BitVec.getLsbD_and⟩
  case or => exact ⟨_, zeroToAcc_result h fun v => s.acc ||| v, fun _ _ => BitVec.getLsbD_or⟩
  case xor => exact ⟨_, zeroToAcc_result h fun v => s.acc ^^^ v, fun _ _ => BitVec.getLsbD_xor⟩
  case cpl => exact ⟨_, zeroToAcc_result h fun v => ~~~v, fun _ hk => complement_getLsbD hk⟩
  case andx => exact ⟨_, rfl, fun _ _ => BitVec.getLsbD_and⟩
  case orx => exact ⟨_, rfl, fun _ _ => BitVec.getLsbD_or⟩
  case xorx => exact ⟨_, rfl, fun _ _ => BitVec.getLsbD_xor⟩

/-- Settles O20: the same operations, stored to `[m]`. -/
theorem logicToMemoryResult : Obligations.LogicToMemoryResult := by
  refine fun m s h hl => ⟨?and, ?or, ?xor, ?cpl⟩
  case and => exact ⟨_, zeroToMem_next h hl fun v => s.acc &&& v, fun _ _ => BitVec.getLsbD_and⟩
  case or => exact ⟨_, zeroToMem_next h hl fun v => s.acc ||| v, fun _ _ => BitVec.getLsbD_or⟩
  case xor => exact ⟨_, zeroToMem_next h hl fun v => s.acc ^^^ v, fun _ _ => BitVec.getLsbD_xor⟩
  case cpl => exact ⟨_, zeroToMem_next h hl fun v => ~~~v, fun _ hk => complement_getLsbD hk⟩

/-- Settles O21: plus and minus one, to ACC or to `[m]`, with Z. -/
theorem incrementDecrementResult : Obligations.IncrementDecrementResult := by
  refine fun m s h => ⟨?inca, ?deca, fun hl => ⟨?inc, ?dec⟩⟩
  case inca => exact ⟨_, zeroToAcc_result h fun v => v + 1, increment_toNat _⟩
  case deca => exact ⟨_, zeroToAcc_result h fun v => v - 1, decrement_toNat _⟩
  case inc => exact ⟨_, zeroToMem_next h hl fun v => v + 1, increment_toNat _⟩
  case dec => exact ⟨_, zeroToMem_next h hl fun v => v - 1, decrement_toNat _⟩

/-! ### Rotates (R180 to R188) -/

/-- Bits one place down, and the bit shifted in at the top. -/
theorem shiftRightIn_getLsbD (b : Bool) (v : Byte) :
    (∀ k < 7, (shiftRightIn b v).getLsbD k = v.getLsbD (k + 1)) ∧ (shiftRightIn b v).getLsbD 7 = b := by
  have hbit (k : Nat) : (shiftRightIn b v).getLsbD k = (BitVec.ofBool b ++ v.extractLsb' 1 7).getLsbD k := rfl
  refine ⟨fun k hk => ?_, ?_⟩
  · rw [hbit, BitVec.getLsbD_append, if_pos hk, BitVec.getLsbD_extractLsb', decide_eq_true hk, Bool.true_and, Nat.add_comm]
  · rw [hbit, BitVec.getLsbD_append, if_neg (Nat.lt_irrefl 7)]
    exact BitVec.getLsbD_ofBool b 0

/-- Bits one place up, and the bit shifted in at the bottom. -/
theorem shiftLeftIn_getLsbD (v : Byte) (b : Bool) :
    (∀ k < 7, (shiftLeftIn v b).getLsbD (k + 1) = v.getLsbD k) ∧ (shiftLeftIn v b).getLsbD 0 = b := by
  have hbit (k : Nat) : (shiftLeftIn v b).getLsbD k = (v.extractLsb' 0 7 ++ BitVec.ofBool b).getLsbD k := rfl
  refine ⟨fun k hk => ?_, ?_⟩
  · rw [hbit, BitVec.getLsbD_append, if_neg (by omega), BitVec.getLsbD_extractLsb', Nat.add_sub_cancel, decide_eq_true hk,
      Bool.true_and, Nat.zero_add]
  · rw [hbit, BitVec.getLsbD_append, if_pos Nat.one_pos]
    exact BitVec.getLsbD_ofBool b 0

section
variable {m : OperandAddr} {s : State}

/-- A rotate to ACC that touches no flag. -/
theorem withOperand_setAcc (h : accessible m s = true) (f : Byte → Byte) :
    (withOperand m s fun v t => t.setAcc (f v)) = .next { afterRead m s with acc := f (operand m s) } :=
  withOperand_next h fun v t => t.setAcc (f v)

/-- A rotate through carry to ACC. -/
theorem withOperand_setAcc_carry (h : accessible m s = true) (f : Byte → Byte) (c : Byte → Bool) :
    (withOperand m s fun v t => (t.setAcc (f v)).setStatus (s.status.withCarry (c v))) =
      .next { afterRead m s with acc := f (operand m s), status := { s.status with c := c (operand m s) } } :=
  withOperand_next h fun v t => (t.setAcc (f v)).setStatus (s.status.withCarry (c v))

/-- A rotate through carry to `[m]`. -/
theorem modifyingFlags_carry (h : accessible m s = true) (hl : locate m s ≠ .status) (f : Byte → Byte) (c : Byte → Bool) :
    modifyingFlags m f (fun v => s.status.withCarry (c v)) s =
      .next { writeLoc (locate m s) (f (operand m s)) (afterRead m s) with
        status := { s.status with c := c (operand m s) } } :=
  modifyingFlags_next h hl f fun v => s.status.withCarry (c v)

end

/-- Settles O22: one place down or up, with the bit that leaves or the carry shifted in. -/
theorem rotateToAccResult : Obligations.RotateToAccResult := by
  refine fun m s h => ⟨?rr, ?rl, ?rrc, ?rlc⟩
  case rr => exact ⟨_, withOperand_setAcc h fun v => shiftRightIn (v.getLsbD 0) v, shiftRightIn_getLsbD _ _⟩
  case rl => exact ⟨_, withOperand_setAcc h fun v => shiftLeftIn v (v.getLsbD 7), shiftLeftIn_getLsbD _ _⟩
  case rrc =>
    exact ⟨_, withOperand_setAcc_carry h (shiftRightIn s.status.c) fun v => v.getLsbD 0, shiftRightIn_getLsbD _ _⟩
  case rlc =>
    exact ⟨_, withOperand_setAcc_carry h (fun v => shiftLeftIn v s.status.c) fun v => v.getLsbD 7, shiftLeftIn_getLsbD _ _⟩

/-- Settles O23: the same bytes, stored to `[m]`. -/
theorem rotateToMemoryResult : Obligations.RotateToMemoryResult := by
  refine fun m s h => ⟨?rr, ?rl, fun hl => ⟨?rrc, ?rlc⟩⟩
  case rr => exact ⟨_, modifying_next h fun v => shiftRightIn (v.getLsbD 0) v, shiftRightIn_getLsbD _ _⟩
  case rl => exact ⟨_, modifying_next h fun v => shiftLeftIn v (v.getLsbD 7), shiftLeftIn_getLsbD _ _⟩
  case rrc => exact ⟨_, modifyingFlags_carry h hl (shiftRightIn s.status.c) fun v => v.getLsbD 0, shiftRightIn_getLsbD _ _⟩
  case rlc =>
    exact ⟨_, modifyingFlags_carry h hl (fun v => shiftLeftIn v s.status.c) fun v => v.getLsbD 7, shiftLeftIn_getLsbD _ _⟩

/-! ### Moves, stores, bits -/

/-- Settles O24: the loads set ACC on the state after the read. -/
theorem moveToAccResult : Obligations.MoveToAccResult :=
  ⟨fun _ _ h => withOperand_setAcc h fun v => v, fun _ _ => rfl⟩

/-- Settles O25: the three stores are `storing`, which does not read. -/
theorem plainStoreResult : Obligations.PlainStoreResult :=
  fun _ _ h => ⟨storing_next h _, storing_next h _, storing_next h _⟩

/-- The mask of bit `b` has that bit alone. -/
theorem bitMask_getLsbD {b : BitIndex} {k : Nat} (hk : k < 8) : (bitMask b).getLsbD k = decide (k = b.toNat) := by
  rw [bitMask, ← BitVec.twoPow_eq, BitVec.getLsbD_twoPow]
  grind

/-- Settles O26: the mask clears or sets its bit and keeps the others. -/
theorem bitOperationResult : Obligations.BitOperationResult := by
  refine fun m b s h => ⟨⟨_, modifying_next h fun v => v &&& ~~~(bitMask b), fun k hk => ?clr⟩,
    ⟨_, modifying_next h fun v => v ||| bitMask b, fun k hk => ?set⟩⟩
  case clr =>
    rw [BitVec.getLsbD_and, complement_getLsbD hk, bitMask_getLsbD hk]
    split <;> simp [*]
  case set =>
    rw [BitVec.getLsbD_or, bitMask_getLsbD hk]
    split <;> simp [*]

/-- Settles O27: the store leaves MP, so the load names the same byte, which reads back. -/
theorem storedByteIsLoadedBack : Obligations.StoredByteIsLoadedBack := by
  intro m s t y a hwf hl ht
  obtain ⟨ha, rfl⟩ := storing_eq_next.mp ht
  rw [hl]
  have hl' : locate m { writeLoc (.ram a) s.acc s with acc := y } = .ram a := hl
  have ha' : accessible m { writeLoc (.ram a) s.acc s with acc := y } = true := by
    rw [accessible, hl']
    rfl
  have hread : operand m { writeLoc (.ram a) s.acc s with acc := y } = s.acc := by
    rw [operand_of_locate hl']
    exact (writeLoc_read _ _ _ hwf a).trans (if_pos rfl)
  refine (withOperand_setAcc ha' fun v => v).trans ?_
  rw [hread, afterRead, hl']
  rfl

/-! ### Skips (R209) -/

section
variable {m : OperandAddr} {s : State}

/-- A skip taken: the counter one word further, one more cycle. -/
theorem skipIf_of_true {t : State} {b : Bool} (hb : b = true) :
    t.skipIf b = { t with pc := BitVec.ofNat 9 ((t.pc.toNat + 1) % 512), cycles := t.cycles + 1 } := by
  rw [hb, State.skipIf_true, ← pc_add_one_eq_ofNat]
  rfl

theorem skipIf_of_false {t : State} {b : Bool} (hb : b = false) : t.skipIf b = t := by
  rw [hb, State.skipIf_false]

/-- A skip that writes nothing, taken. -/
theorem withOperand_skips (h : accessible m s = true) {k : Byte → Bool} (hk : k (operand m s) = true) :
    (withOperand m s fun v t => t.skipIf (k v)) =
      .next { afterRead m s with pc := BitVec.ofNat 9 ((s.pc.toNat + 1) % 512), cycles := s.cycles + 1 } := by
  rw [withOperand_next h, skipIf_of_true hk, afterRead_pc, afterRead_cycles]

/-- A skip that writes nothing, not taken. -/
theorem withOperand_skips_not (h : accessible m s = true) {k : Byte → Bool} (hk : k (operand m s) = false) :
    (withOperand m s fun v t => t.skipIf (k v)) = .next (afterRead m s) := by
  rw [withOperand_next h, skipIf_of_false hk]

/-- A byte is 0 exactly where its number is. -/
theorem byte_eq_zero_iff {v : Byte} : v = 0 ↔ v.toNat = 0 := BitVec.toNat_inj.symm

/-- A skip that loads ACC, in both cases (R211, R216, R217). -/
theorem withOperand_loads_and_skips (h : accessible m s = true) (f : Byte → Byte) :
    (withOperand m s fun v t => (t.setAcc (f v)).skipIf (decide (f v = 0))) =
      if (f (operand m s)).toNat = 0 then
        .next { afterRead m s with
          acc := f (operand m s), pc := BitVec.ofNat 9 ((s.pc.toNat + 1) % 512), cycles := s.cycles + 1 }
      else .next { afterRead m s with acc := f (operand m s) } := by
  rw [withOperand_next h]
  split
  · next hz =>
    rw [skipIf_of_true (decide_eq_true (byte_eq_zero_iff.mpr hz)), State.setAcc_pc, State.setAcc_cycles, afterRead_pc, afterRead_cycles]
    rfl
  · next hz =>
    rw [skipIf_of_false (decide_eq_false (mt byte_eq_zero_iff.mp hz))]
    rfl

/-- A skip that stores its result, in both cases (R214, R215). -/
theorem modifyingSkip_result (h : accessible m s = true) (hl : locate m s ≠ .pcl) (f : Byte → Byte) :
    modifyingSkip m f s =
      if (f (operand m s)).toNat = 0 then
        .next { writeLoc (locate m s) (f (operand m s)) (afterRead m s) with
          pc := BitVec.ofNat 9 ((s.pc.toNat + 1) % 512), cycles := s.cycles + 1 }
      else .next (writeLoc (locate m s) (f (operand m s)) (afterRead m s)) := by
  obtain ⟨hpc, hcycles⟩ := writeLoc_pc (locate m s) (f (operand m s)) (afterRead m s) hl
  rw [modifyingSkip_next h hl]
  split
  · next hz => rw [skipIf_of_true (decide_eq_true (byte_eq_zero_iff.mpr hz)), hpc, hcycles, afterRead_pc, afterRead_cycles]
  · next hz => rw [skipIf_of_false (decide_eq_false (mt byte_eq_zero_iff.mp hz))]

end

theorem increment_eq_ofNat (v : Byte) : v + 1 = BitVec.ofNat 8 (v.toNat + 1) :=
  BitVec.eq_of_toNat_eq ((increment_toNat v).trans (BitVec.toNat_ofNat (v.toNat + 1) 8).symm)

theorem decrement_eq_ofNat (v : Byte) : v - 1 = BitVec.ofNat 8 (v.toNat + 255) :=
  BitVec.eq_of_toNat_eq ((decrement_toNat v).trans (BitVec.toNat_ofNat (v.toNat + 255) 8).symm)

/-- Settles O29: the condition decides whether the state after the read skips. -/
theorem skipOnOperandResult : Obligations.SkipOnOperandResult := by
  refine fun m b s h => ⟨fun hz => ?_, fun hz => ?_, fun hb => ⟨?_, ?_⟩, fun hb => ⟨?_, ?_⟩⟩
  · exact withOperand_skips h (k := fun v => decide (v = 0)) (decide_eq_true (byte_eq_zero_iff.mpr hz))
  · exact withOperand_skips_not h (k := fun v => decide (v = 0)) (decide_eq_false (mt byte_eq_zero_iff.mp hz))
  · exact withOperand_skips h (k := fun v => !v.getLsbD b.toNat) (by simp [hb])
  · exact withOperand_skips_not h (k := fun v => v.getLsbD b.toNat) hb
  · exact withOperand_skips_not h (k := fun v => !v.getLsbD b.toNat) (by simp [hb])
  · exact withOperand_skips h (k := fun v => v.getLsbD b.toNat) hb

/-- Settles O30: SZA loads the byte, SIZA and SDZA the byte plus and minus one. -/
theorem skipLoadingAccResult : Obligations.SkipLoadingAccResult := by
  refine fun m s h => ⟨?sza, ?siza, ?sdza⟩
  case sza => exact withOperand_loads_and_skips h fun v => v
  case siza =>
    rw [← increment_eq_ofNat]
    exact withOperand_loads_and_skips h fun v => v + 1
  case sdza =>
    rw [← decrement_eq_ofNat]
    exact withOperand_loads_and_skips h fun v => v - 1

/-- Settles O31: SIZ and SDZ store the byte plus and minus one. -/
theorem skipStoringResult : Obligations.SkipStoringResult := by
  refine fun m s h hl => ⟨?siz, ?sdz⟩
  case siz =>
    rw [← increment_eq_ofNat]
    exact modifyingSkip_result h hl fun v => v + 1
  case sdz =>
    rw [← decrement_eq_ofNat]
    exact modifyingSkip_result h hl fun v => v - 1

/-- Settles O32: SIZ and SDZ are `modifyingSkip`, which refuses PCL. -/
theorem skipOnPclIsRefused : Obligations.SkipOnPclIsRefused := fun m s hm =>
  have hl : locate m s = .pcl := (locOf_pcl _).mpr hm
  ⟨modifyingSkip_pcl hl fun v => v + 1, modifyingSkip_pcl hl fun v => v - 1⟩

end Sys2Proof.Machine
end

section
/-! PROOFS. The step onto an instruction, the control flow, the watchdog instructions, and the interrupt with its return: O5, O8, O10, O28,
O33, O34, O36, O37, O59. -/

namespace Sys2Proof.Machine

/-! ### The step onto an instruction -/

/-- With no turn scheduled the schedule stays empty (log 7). -/
theorem State.setEnv_nil_of_env {s : State} (he : s.env = []) : s.setEnv [] = s := by
  rw [← he]
  rfl

/-- Settles O5: both schedules give the core its turn, and the prologue is the fetch's increment. -/
theorem stepRunsTheDecodedInstruction : Obligations.StepRunsTheDecodedInstruction := by
  refine fun s i hr hd _ => ⟨fun he => ?_, fun rest he => step_runs (.inr he) hr hd⟩
  rw [step_runs (.inl ⟨he, rfl⟩) hr hd, State.setEnv_nil_of_env he]
  rfl

/-- Settles O8: the word is inserted at the counter, so it is looked up there, and elsewhere what was there. -/
theorem fetchReadsTheProgrammedWord : Obligations.FetchReadsTheProgrammedWord := by
  intro s w hw
  have hword : BitVec.ofNat 14 (w % 2 ^ 16) = BitVec.ofNat 14 w := by
    rw [Nat.mod_eq_of_lt (by omega)]
  have hprom : (s.withFetchWord 16 w).prom = Memory.insert s.pc.toNat (BitVec.ofNat 14 w) s.prom := by
    rw [← hword]
    rfl
  have hpc : (s.withFetchWord 16 w).pc = s.pc := rfl
  refine ⟨?_, fun a ha => ?_⟩
  · rw [fetch, hprom, hpc, Memory.lookup_insert_same]
    rfl
  · rw [fetch, hprom, Memory.lookup_insert_other (mt BitVec.eq_of_toNat_eq ha), fetch]

/-- While RES is low the core's turn does nothing (R303). -/
theorem coreTurn_of_reset {s : State} (hr : s.pins.res = false) (dec : CodeWord → Option Instr) : coreTurn dec s = .next s := by
  simp [coreTurn, hr]

/-- While RES is low neither clock does anything (R303, log 25). -/
theorem applyEvent_clock_of_reset {s : State} {e : Event} (hr : s.pins.res = false) (he : e = .instrClock ∨ e = .rcClock) :
    applyEvent e s = .next s := by
  rcases he with rfl | rfl <;> simp [applyEvent, hr]

/-- Settles O10: the core's turn and both clocks test RES first. -/
theorem coreIsHeldWhileResIsLow : Obligations.CoreIsHeldWhileResIsLow := by
  refine fun s hr => ⟨fun he => ?_, fun rest he => ?_, fun rest he => ?_, fun rest he => ?_⟩
  · rw [step_nil he, coreTurn_of_reset hr]
  · exact (step_core he).trans (coreTurn_of_reset (s := s.setEnv rest) hr decode)
  · exact (step_event he).trans (applyEvent_clock_of_reset (s := s.setEnv rest) hr (.inl rfl))
  · exact (step_event he).trans (applyEvent_clock_of_reset (s := s.setEnv rest) hr (.inr rfl))

/-! ### Jumps, calls and returns -/

/-- Settles O28: JMP is `goto`, CALL a push and a `goto`. -/
theorem jumpAndCallResult : Obligations.JumpAndCallResult := fun _ _ => ⟨rfl, rfl⟩

/-- A return with something pushed (R207). -/
theorem returning_full {s : State} (h : s.stackFull = true) (k : State → State) : returning k s = .next (k s.pop) := if_pos h

/-- A return with nothing pushed (R207, D5). -/
theorem returning_empty {s : State} (h : s.stackFull = false) (k : State → State) : returning k s = .refused .stackUnderflow :=
  if_neg (by simp [h])

/-- Settles O33: each return is `returning`, which tests the stack. -/
theorem returnResult : Obligations.ReturnResult := by
  refine fun x s => ⟨fun h => ⟨?ret, ?retAx, ?reti⟩, fun h => ⟨?ret', ?retAx', ?reti'⟩⟩
  case ret => exact returning_full h fun t => t
  case retAx => exact returning_full h fun t => t.setAcc x
  case reti => exact returning_full h State.enableInterrupts
  case ret' => exact returning_empty h fun t => t
  case retAx' => exact returning_empty h fun t => t.setAcc x
  case reti' => exact returning_empty h State.enableInterrupts

/-! ### NOP, CLR WDT and HALT -/

/-- CLR WDT and HALT on WDT3, TO and PD, whole (R234, R235, R265, D21). -/
theorem State.clearWdt3_writeToPd_eq (s : State) (tmo pd : Bool) :
    s.clearWdt3.writeToPd tmo pd = (s.setWdt3 (if s.cfg.opt.wdtDisable then s.wdt3 else 0)).setStatus
      (if s.cfg.opt.wdtDisable && !s.cfg.wdtOffFlagWrites then s.status else { s.status with tmo := tmo, pd := pd }) := by
  rw [State.writeToPd_eq, State.clearWdt3_eq]
  rfl

/-- Settles O34: the two options decide what CLR WDT and HALT write. -/
theorem watchdogInstructionsResult : Obligations.WatchdogInstructionsResult := by
  refine fun s => ⟨rfl, fun hon => ?_, fun hoff hwrites => ?_, fun hoff hkeeps => ?_⟩ <;>
    rw [exec_clrWdt, exec_halt, execClrWdt, execHalt, State.clearWdt3_writeToPd_eq, State.clearWdt3_writeToPd_eq]
  · rw [hon]
    exact ⟨rfl, rfl⟩
  · rw [hoff, hwrites]
    exact ⟨rfl, rfl⟩
  · rw [hoff, hkeeps]
    exact ⟨rfl, rfl⟩

/-! ### Interrupts held back, and the return from one -/

/-- With the stack full, EMI 0, or no source both requested and enabled, no interrupt is acceptable (R245, R246). -/
theorem State.runsNext_of_held {s : State} (hres : s.pins.res = true) (hhalt : s.halted = false)
    (h : s.stackFull = true ∨ s.intc.emi = false ∨
      ((s.intc.eei = false ∨ s.intc.eif = false) ∧ (s.intc.eti = false ∨ s.intc.tf = false))) : s.runsNext = true := by
  have hnone (src : Source) : s.acceptable src = false := by
    rcases h with h | h | ⟨he | he, ht | ht⟩ <;> cases src <;> simp [State.acceptable, Intc.requests, *]
  simp [State.runsNext, hres, hhalt, hnone]

/-- Settles O36: nothing is acceptable, so the instruction runs. -/
theorem heldInterruptLetsTheInstructionRun : Obligations.HeldInterruptLetsTheInstructionRun :=
  fun _ _ _ hn hres hhalt hd h => step_runs hn (State.runsNext_of_held hres hhalt h) hd

/-- An acceptable source has EMI set. -/
theorem State.emi_of_acceptable {s : State} {src : Source} (h : s.acceptable src = true) : s.intc.emi = true := by
  obtain ⟨hreq, -⟩ := State.acceptable_iff.mp h
  cases src <;> simp only [Intc.requests, Bool.and_eq_true] at hreq <;> exact hreq.1.1

/-- INTC after an entry and the RETI that follows: the flag taken is cleared, the rest as before (R248, R257). -/
theorem Intc.enter_reti {i : Intc} (hemi : i.emi = true) (src : Source) :
    { i.enter src with emi := true } =
      { i with eif := i.eif && decide (src ≠ .external), tf := i.tf && decide (src ≠ .timer) } := by
  cases src <;> simp [Intc.enter, hemi]

/-- The entry of `src` and the RETI that follows, whole: what they leave beside the counter, the stack and INTC is `s` (R248, R257). -/
theorem reti_after_entry {s : State} (hroom : s.stackFull = false) (hemi : s.intc.emi = true) (src : Source) (rest later : List Turn) :
    ((interruptEntry src (s.setEnv rest)).setEnv later).begin.pop.enableInterrupts = { s with
      env := later, stack := s.pc,
      intc := { s.intc with eif := s.intc.eif && decide (src ≠ .external), tf := s.intc.tf && decide (src ≠ .timer) },
      tmrRead := false, cycles := s.cycles + Config.interruptEntryCycles + 2 } := by
  rw [← Intc.enter_reti hemi, interruptEntry_eq]
  obtain ⟨⟩ := s
  cases hroom
  rfl

/-- Settles O37: the entry pushes the counter and leaves the stack full, so nothing is acceptable, RETI runs and pops it. -/
theorem retiUndoesTheInterruptEntry : Obligations.RetiUndoesTheInterruptEntry := by
  intro s t u src rest later hn hres hhalt hacc hfirst ht hlater hd hu
  obtain ⟨-, hroom⟩ := State.acceptable_iff.mp hacc
  have hemi := State.emi_of_acceptable hacc
  rw [step_enters hn hres hhalt hacc hfirst, Host.Outcome.next.injEq] at ht
  subst ht
  have hruns : (interruptEntry src (s.setEnv rest)).runsNext = true := State.runsNext_of_held hres hhalt (.inl rfl)
  rw [step_runs hlater hruns hd, exec_reti, execReti, returning_full (by rw [interruptEntry_eq]; rfl), Host.Outcome.next.injEq] at hu
  exact ⟨hemi, hroom, hu.symm.trans (reti_after_entry hroom hemi src rest later)⟩

/-! ### The pins (R275) -/

theorem pinView_output (latch pull : Bool) {ctl : Bool} (h : ctl = false) : pinView ctl latch pull = .drives latch := by
  rw [h]
  rfl

theorem pinView_input (latch pull : Bool) {ctl : Bool} (h : ctl = true) :
    pinView ctl latch pull = if pull then .pulledHigh else .highImpedance := by
  rw [h]
  rfl

/-- Settles O59: each pin's view is `pinView` of its own bits. -/
theorem pinsShowLatchOrHighImpedance : Obligations.PinsShowLatchOrHighImpedance := fun _ =>
  ⟨fun _ => ⟨pinView_output _ _, pinView_input _ _⟩, fun _ => ⟨pinView_output _ _, pinView_input _ _⟩,
    fun _ => ⟨pinView_output _ _, pinView_input _ _⟩⟩

end Sys2Proof.Machine
end

section
/-! PROOFS. What any instruction can do, said once (`Instr.Does`), and the rules of the whole machine that follow from it: O38 to O44. -/

namespace Sys2Proof

open Machine

/-! ### Flags an instruction leaves -/

/-- From the flags `a` to the flags `b` only those differ that the row ticks (R35). -/
structure FlagRow.Keeps (row : FlagRow) (a b : Status) : Prop where
  c : row.c = false → b.c = a.c
  ac : row.ac = false → b.ac = a.ac
  z : row.z = false → b.z = a.z
  ov : row.ov = false → b.ov = a.ov
  pdTo : row.pdTo = false → b.pd = a.pd ∧ b.tmo = a.tmo

theorem FlagRow.keeps_refl (row : FlagRow) (st : Status) : row.Keeps st st :=
  ⟨fun _ => rfl, fun _ => rfl, fun _ => rfl, fun _ => rfl, fun _ => ⟨rfl, rfl⟩⟩

theorem FlagRow.sum_keeps_withSum (st : Status) (r : Sum) : FlagRow.sum.Keeps st (st.withSum r) :=
  ⟨nofun, nofun, nofun, nofun, fun _ => ⟨rfl, rfl⟩⟩

theorem FlagRow.zero_keeps_withZero (st : Status) (v : Byte) : FlagRow.zero.Keeps st (st.withZero v) :=
  ⟨fun _ => rfl, fun _ => rfl, nofun, fun _ => rfl, fun _ => ⟨rfl, rfl⟩⟩

theorem FlagRow.carry_keeps_withCarry (st : Status) (b : Bool) : FlagRow.carry.Keeps st (st.withCarry b) :=
  ⟨nofun, fun _ => rfl, fun _ => rfl, fun _ => rfl, fun _ => ⟨rfl, rfl⟩⟩

theorem FlagRow.watchdog_keeps_toPd (st : Status) (tmo pd : Bool) : FlagRow.watchdog.Keeps st { st with tmo := tmo, pd := pd } :=
  ⟨fun _ => rfl, fun _ => rfl, fun _ => rfl, fun _ => rfl, nofun⟩

/-! ### What an instruction can do -/

/-- Everything an instruction can do to a state, by what it reaches; the flags it may write are those of its row. -/
inductive Instr.Does (i : Instr) (s : State) : State → Prop where
  /-- It reads `[m]` and writes ACC and flags, and may skip. -/
  | load {m : OperandAddr} (a : Byte) (st : Status) (b : Bool) (hm : i.memOperand = some m) (hs : i.storesToMem = false)
      (hf : i.flagRow.Keeps s.status st) : Does i s ((((afterRead m s).setAcc a).setStatus st).skipIf b)
  /-- It stores to `[m]`, with or without reading it, writes flags, and may skip where that is not PCL. -/
  | store {m : OperandAddr} {u : State} (v : Byte) (st : Status) (b : Bool) (hm : i.memOperand = some m) (hs : i.storesToMem = true)
      (hu : u = s ∨ u = afterRead m s) (hpcl : b = true → locate m s ≠ .pcl)
      (hf : i.flagRow.Keeps (writeLoc (locate m s) v u).status st) :
      Does i s (((writeLoc (locate m s) v u).setStatus st).skipIf b)
  /-- It has no operand in memory and writes ACC and flags. -/
  | register (a : Byte) (st : Status) (hf : i.flagRow.Keeps s.status st) : Does i s ((s.setAcc a).setStatus st)
  /-- It is a jump. -/
  | jump (addr : ProgAddr) : Does i s (s.goto addr)
  /-- It is a call. -/
  | call (addr : ProgAddr) (hi : i = .call addr) : Does i s ((s.push s.pc).goto addr)
  /-- It is a return, with something pushed. -/
  | ret (a : Byte) (emi : Bool) (hi : i = .ret ∨ i = .reti ∨ ∃ x, i = .retAx x) (hfull : s.stackFull = true) :
      Does i s ((s.pop.setAcc a).setIntc { s.intc with emi := emi })
  /-- It is CLR WDT or HALT. -/
  | watchdog (w : BitVec 3) (st : Status) (h : Bool) (hf : i.flagRow.Keeps s.status st) :
      Does i s (((s.setWdt3 w).setStatus st).setHalted h)

section
variable {i : Instr} {m : OperandAddr} {s t : State}

theorem Instr.Does.of_withOperand {k : Byte → State → State} (hm : i.memOperand = some m) (hs : i.storesToMem = false)
    (h : withOperand m s k = .next t)
    (hk : ∀ v u, u.status = s.status → ∃ a st b, k v u = ((u.setAcc a).setStatus st).skipIf b ∧ i.flagRow.Keeps s.status st) :
    i.Does s t := by
  obtain ⟨-, rfl⟩ := withOperand_eq_next.mp h
  obtain ⟨a, st, b, hstate, hf⟩ := hk (operand m s) (afterRead m s) (afterRead_status m s)
  rw [hstate]
  exact .load a st b hm hs hf

theorem Instr.Does.of_storing {v : Byte} (hm : i.memOperand = some m) (hs : i.storesToMem = true)
    (h : storing m v s = .next t) : i.Does s t := by
  obtain ⟨-, rfl⟩ := storing_eq_next.mp h
  exact .store v _ false hm hs (.inl rfl) nofun (FlagRow.keeps_refl _ _)

theorem Instr.Does.of_modifying {f : Byte → Byte} (hm : i.memOperand = some m) (hs : i.storesToMem = true)
    (h : modifying m f s = .next t) : i.Does s t := by
  obtain ⟨-, rfl⟩ := modifying_eq_next.mp h
  exact .store _ _ false hm hs (.inr rfl) nofun (FlagRow.keeps_refl _ _)

theorem Instr.Does.of_modifyingFlags {f : Byte → Byte} {g : Byte → Status} (hm : i.memOperand = some m)
    (hs : i.storesToMem = true) (h : modifyingFlags m f g s = .next t) (hg : ∀ v, i.flagRow.Keeps s.status (g v)) :
    i.Does s t := by
  obtain ⟨-, hl, rfl⟩ := modifyingFlags_eq_next.mp h
  refine .store _ _ false hm hs (.inr rfl) nofun ?_
  rw [writeLoc_status _ _ _ hl, afterRead_status]
  exact hg _

theorem Instr.Does.of_sumToMem {r : Byte → Sum} (hm : i.memOperand = some m) (hs : i.storesToMem = true) (hr : i.flagRow = .sum)
    (h : sumToMem m r s = .next t) : i.Does s t := by
  unfold sumToMem at h
  exact .of_modifyingFlags hm hs h fun _ => hr ▸ FlagRow.sum_keeps_withSum _ _

theorem Instr.Does.of_zeroToMem {f : Byte → Byte} (hm : i.memOperand = some m) (hs : i.storesToMem = true) (hr : i.flagRow = .zero)
    (h : zeroToMem m f s = .next t) : i.Does s t := by
  unfold zeroToMem at h
  exact .of_modifyingFlags hm hs h fun _ => hr ▸ FlagRow.zero_keeps_withZero _ _

theorem Instr.Does.of_modifyingSkip {f : Byte → Byte} (hm : i.memOperand = some m) (hs : i.storesToMem = true)
    (h : modifyingSkip m f s = .next t) : i.Does s t := by
  obtain ⟨-, hl, rfl⟩ := modifyingSkip_eq_next.mp h
  exact .store _ _ _ hm hs (.inr rfl) (fun _ => hl) (FlagRow.keeps_refl _ _)

/-- What CLR WDT and HALT write beside the halt keeps all but TO and PD of STATUS. -/
theorem FlagRow.watchdog_keeps_written (s : State) (tmo pd : Bool) : FlagRow.watchdog.Keeps s.status
    (if s.cfg.opt.wdtDisable && !s.cfg.wdtOffFlagWrites then s.status else { s.status with tmo := tmo, pd := pd }) := by
  split
  · exact FlagRow.keeps_refl _ _
  · exact FlagRow.watchdog_keeps_toPd _ _ _

/-- Every instruction that answers a next state does one of these. -/
theorem exec_does (h : exec i s = .next t) : i.Does s t := by
  cases i <;> simp only [exec] at h
  case addAM | adcAM | subAM | sbcAM =>
    exact .of_withOperand rfl rfl h fun _ u hu => ⟨_, _, false, rfl, hu ▸ FlagRow.sum_keeps_withSum u.status _⟩
  case andAM | orAM | xorAM | cplaM | incaM | decaM =>
    exact .of_withOperand rfl rfl h fun _ u hu => ⟨_, _, false, rfl, hu ▸ FlagRow.zero_keeps_withZero u.status _⟩
  case rrcaM | rlcaM =>
    exact .of_withOperand rfl rfl h fun _ _ _ => ⟨_, _, false, rfl, FlagRow.carry_keeps_withCarry s.status _⟩
  case rraM =>
    exact .of_withOperand rfl rfl h fun v u hu => ⟨shiftRightIn (v.getLsbD 0) v, u.status, false, rfl, hu ▸ FlagRow.keeps_refl _ _⟩
  case rlaM =>
    exact .of_withOperand rfl rfl h fun v u hu => ⟨shiftLeftIn v (v.getLsbD 7), u.status, false, rfl, hu ▸ FlagRow.keeps_refl _ _⟩
  case movAM => exact .of_withOperand rfl rfl h fun v u hu => ⟨v, u.status, false, rfl, hu ▸ FlagRow.keeps_refl _ _⟩
  case szM | szMi | snzMi =>
    exact .of_withOperand rfl rfl h fun _ u hu => ⟨u.acc, u.status, _, rfl, hu ▸ FlagRow.keeps_refl _ _⟩
  case szaM => exact .of_withOperand rfl rfl h fun v u hu => ⟨v, u.status, decide (v = 0), rfl, hu ▸ FlagRow.keeps_refl _ _⟩
  case sizaM =>
    exact .of_withOperand rfl rfl h fun v u hu => ⟨v + 1, u.status, decide (v + 1 = 0), rfl, hu ▸ FlagRow.keeps_refl _ _⟩
  case sdzaM =>
    exact .of_withOperand rfl rfl h fun v u hu => ⟨v - 1, u.status, decide (v - 1 = 0), rfl, hu ▸ FlagRow.keeps_refl _ _⟩
  case movMA | clrM | setM => exact .of_storing rfl rfl h
  case rrM | rlM | clrMi | setMi => exact .of_modifying rfl rfl h
  case addmAM | adcmAM | submAM | sbcmAM => exact .of_sumToMem rfl rfl rfl h
  case andmAM | ormAM | xormAM | cplM | incM | decM => exact .of_zeroToMem rfl rfl rfl h
  case rrcM | rlcM => exact .of_modifyingFlags rfl rfl h fun _ => FlagRow.carry_keeps_withCarry _ _
  case sizM | sdzM => exact .of_modifyingSkip rfl rfl h
  case ret =>
    obtain ⟨hfull, rfl⟩ := returning_eq_next.mp h
    exact .ret s.acc s.intc.emi (.inl rfl) hfull
  case retAx x =>
    obtain ⟨hfull, rfl⟩ := returning_eq_next.mp h
    exact .ret x s.intc.emi (.inr (.inr ⟨x, rfl⟩)) hfull
  case reti =>
    obtain ⟨hfull, rfl⟩ := returning_eq_next.mp h
    exact .ret s.acc true (.inr (.inl rfl)) hfull
  all_goals cases h
  case addAx | subAx => exact .register _ _ (FlagRow.sum_keeps_withSum _ _)
  case andAx | orAx | xorAx => exact .register _ _ (FlagRow.zero_keeps_withZero _ _)
  case movAx x => exact .register x s.status (FlagRow.keeps_refl _ _)
  case nop => exact .register s.acc s.status (FlagRow.keeps_refl _ _)
  case jmp addr => exact .jump addr
  case call addr => exact .call addr rfl
  case clrWdt =>
    rw [State.clearWdt3_writeToPd_eq]
    exact .watchdog (i := .clrWdt) (s := s) (if s.cfg.opt.wdtDisable then s.wdt3 else 0) _ s.halted
      (FlagRow.watchdog_keeps_written s false false)
  case halt =>
    rw [State.clearWdt3_writeToPd_eq]
    exact .watchdog _ _ true (FlagRow.watchdog_keeps_written s false true)

end

end Sys2Proof

namespace Sys2Proof.Machine

variable {i : Instr} {s t : State}

/-! ### Flags -/

/-- The flags an instruction leaves are, beside those its row ticks, those before, or those a store to STATUS left. -/
theorem exec_flags (h : exec i s = .next t) :
    i.flagRow.Keeps s.status t.status ∨
    ∃ m v u, i.memOperand = some m ∧ i.storesToMem = true ∧ u.status = s.status ∧
      i.flagRow.Keeps (writeLoc (locate m s) v u).status t.status := by
  cases exec_does h with
  | load a st b _ _ hf =>
    rw [State.skipIf_status]
    exact .inl hf
  | store v st b hm hs hu _ hf =>
    rw [State.skipIf_status]
    refine .inr ⟨_, v, _, hm, hs, ?_, hf⟩
    rcases hu with rfl | rfl
    · rfl
    · exact afterRead_status _ _
  | register a st hf => exact .inl hf
  | watchdog w st h hf => exact .inl hf
  | jump addr => exact .inl (FlagRow.keeps_refl _ _)
  | call addr => exact .inl (FlagRow.keeps_refl _ _)
  | ret a emi => exact .inl (FlagRow.keeps_refl _ _)

/-- Only the row of CLR WDT and HALT ticks TO and PD. -/
theorem Instr.flagRow_pdTo (hc : i ≠ .clrWdt) (hh : i ≠ .halt) : i.flagRow.pdTo = false := by
  cases i
  case clrWdt => exact absurd rfl hc
  case halt => exact absurd rfl hh
  all_goals rfl

/-- Settles O38: the other rows do not tick TO and PD, and a store to STATUS leaves them. -/
theorem onlyClrWdtAndHaltChangeToAndPd : Obligations.OnlyClrWdtAndHaltChangeToAndPd := by
  intro i s t h hc hh
  have hrow := Instr.flagRow_pdTo hc hh
  rcases exec_flags h with hf | ⟨m, v, u, -, -, hu, hf⟩ <;> obtain ⟨hpd, htmo⟩ := hf.pdTo hrow
  · exact ⟨htmo, hpd⟩
  · rw [writeLoc_tmo, hu] at htmo
    rw [writeLoc_pd, hu] at hpd
    exact ⟨htmo, hpd⟩

/-- Settles O39: a store elsewhere than to STATUS leaves it whole, so only the ticked flags differ. -/
theorem flagsFollowTheTable : Obligations.FlagsFollowTheTable := by
  intro i s t h hdest
  have hf : i.flagRow.Keeps s.status t.status := by
    rcases exec_flags h with hf | ⟨m, v, u, hm, hs, hu, hf⟩
    · exact hf
    · rwa [writeLoc_status _ _ _ (hdest m hm hs), hu] at hf
  exact ⟨hf.c, hf.ac, hf.z, hf.ov, hf.pdTo⟩

/-! ### The stack, RAM, the environment, the counter -/

/-- An instruction that is no call and no return leaves the stack. -/
theorem exec_stack (h : exec i s = .next t) (hcall : ∀ addr, i ≠ .call addr) (hret : i ≠ .ret) (hreti : i ≠ .reti)
    (hretAx : ∀ x, i ≠ .retAx x) : t.stack = s.stack ∧ t.stackFull = s.stackFull := by
  cases exec_does h with
  | load | register | jump | watchdog => simp
  | store v st b hm hs hu => rcases hu with rfl | rfl <;> simp
  | call addr hi => exact absurd hi (hcall addr)
  | ret a emi hi =>
    rcases hi with hi | hi | ⟨x, hi⟩
    · exact absurd hi hret
    · exact absurd hi hreti
    · exact absurd hi (hretAx x)

/-- Settles O40: CALL pushes, a return is `returning`, and no other instruction reaches the stack. -/
theorem onlyCallAndReturnsTouchTheStack : Obligations.OnlyCallAndReturnsTouchTheStack := by
  refine fun i s t h => ⟨?call, ?ret, exec_stack h⟩
  case call =>
    rintro ⟨addr, rfl⟩
    cases h
    exact ⟨rfl, rfl⟩
  case ret =>
    have hpop {k : State → State} (hk : ∀ u, (k u).stack = u.stack ∧ (k u).stackFull = u.stackFull) (hr : returning k s = .next t) :
        t.stack = s.stack ∧ s.stackFull = true ∧ t.stackFull = false := by
      obtain ⟨hfull, rfl⟩ := returning_eq_next.mp hr
      exact ⟨(hk _).1, hfull, (hk _).2⟩
    rintro (rfl | rfl | ⟨x, rfl⟩)
    · exact hpop (k := fun t => t) (fun _ => ⟨rfl, rfl⟩) h
    · exact hpop (k := State.enableInterrupts) (fun _ => ⟨rfl, rfl⟩) h
    · exact hpop (k := fun t => t.setAcc x) (fun _ => ⟨rfl, rfl⟩) h

/-- An instruction changes RAM only by a store to `[m]`. -/
theorem exec_ram (h : exec i s = .next t) :
    t.ram = s.ram ∨
    ∃ m v u, i.memOperand = some m ∧ i.storesToMem = true ∧ u.ram = s.ram ∧ t.ram = (writeLoc (locate m s) v u).ram := by
  cases exec_does h with
  | load | register | jump | watchdog | call | ret => exact .inl (by simp)
  | store v st b hm hs hu =>
    refine .inr ⟨_, v, _, hm, hs, ?_, State.skipIf_ram _ _⟩
    rcases hu with rfl | rfl
    · rfl
    · exact afterRead_ram _ _

/-- Settles O41: a store changes the byte at its location alone. -/
theorem everyOtherRamByteIsUnchanged : Obligations.EveryOtherRamByteIsUnchanged := by
  intro i s t hwf h
  rcases exec_ram h with hram | ⟨m, v, u, hm, hs, hu, hram⟩
  · exact ⟨fun _ => hram, fun _ _ _ _ => by rw [hram]⟩
  · refine ⟨fun hns => by simp [hs] at hns, fun m' a hm' hl => ?_⟩
    cases hm.symm.trans hm'
    rw [hram, writeLoc_read _ _ _ (hu ▸ hwf), if_neg hl, hu]

/-- Settles O42: nothing an instruction does reaches these fields. -/
theorem noInstructionReachesTheEnvironment : Obligations.NoInstructionReachesTheEnvironment := by
  intro i s t h
  cases exec_does h with
  | load | register | jump | watchdog | call | ret => simp
  | store v st b hm hs hu => rcases hu with rfl | rfl <;> simp

/-- A skip leaves the counter and takes no cycle more, or takes one cycle more. -/
theorem State.skipIf_counter (b : Bool) :
    ((s.skipIf b).cycles = s.cycles ∧ (s.skipIf b).pc = s.pc) ∨ (b = true ∧ (s.skipIf b).cycles = s.cycles + 1) := by
  rcases s.skipIf_cases b with ⟨hb, h⟩ | ⟨-, h⟩ <;> rw [h]
  · exact .inr ⟨hb, rfl⟩
  · exact .inl ⟨rfl, rfl⟩

/-- An instruction leaves the counter where the fetch did, or takes a second cycle (R321). -/
theorem exec_counter (h : exec i s = .next t) : (t.cycles = s.cycles ∧ t.pc = s.pc) ∨ t.cycles = s.cycles + 1 := by
  cases exec_does h with
  | load a st b =>
    rcases State.skipIf_counter b with ⟨hc, hp⟩ | ⟨-, hc⟩ <;> rw [hc]
    · exact .inl (by simp [hp])
    · exact .inr (by simp)
  | @store m u v st b hm hs hu hpcl =>
    have hbase : u.cycles = s.cycles ∧ u.pc = s.pc := by rcases hu with rfl | rfl <;> simp
    rcases State.skipIf_counter b with ⟨hc, hp⟩ | ⟨hb, hc⟩ <;> rw [hc]
    · rw [hp]
      by_cases hl : locate m s = .pcl
      · exact .inr (by rw [hl, ← hbase.1]; rfl)
      · obtain ⟨hpc, hcycles⟩ := writeLoc_pc _ v u hl
        exact .inl ⟨hcycles.trans hbase.1, hpc.trans hbase.2⟩
    · obtain ⟨-, hcycles⟩ := writeLoc_pc _ v u (hpcl hb)
      exact .inr (by rw [State.setStatus_cycles, hcycles, hbase.1])
  | register | watchdog => exact .inl ⟨rfl, rfl⟩
  | jump | call | ret => exact .inr rfl

/-- Settles O43: one cycle is the fetch's, the other that of a control transfer. -/
theorem oneCycleOrTwo : Obligations.OneCycleOrTwo :=
  fun _ _ _ h => exec_counter h

end Sys2Proof.Machine
end

section
/-! PROOFS. What every step keeps, and the resets: StepKeepsProgramAndDevice (O44), StepKeepsTheInvariant (O45), ResetMeetsTheInvariant
(O46), ResetValues (O47), ResLowResets (O49). The invariant is taken apart into what no change of a pad can break (`State.Calm`) and the
condition while RES is low. -/

namespace Sys2Proof.Machine

/-! ### Program memory and the device -/

/-- No event but a power-up changes program memory or the device. -/
theorem eventClosed_programAndDevice (p : List (Nat × CodeWord)) (c : Config.Device) :
    EventClosed (fun s => s.prom = p ∧ s.cfg = c) where
  pins _ _ h := h
  presc _ _ h := h
  draws _ _ h := h
  requests s eif tf h := by
    rw [raiseRequests_eq]
    exact h
  count s h := by
    rw [State.count_eq]
    exact h
  watchdog s h := by
    rcases wdtClock_cases s with ⟨-, hw⟩ | ⟨-, -, hw⟩ | ⟨-, -, hw⟩ <;> rw [hw] <;> exact h
  wake _ h := h
  resReset s h := by
    unfold State.resReset
    split <;> exact h

theorem applyEvent_programAndDevice {e : Event} {s t : State} (hn : applyEvent e s = .next t) : t.prom = s.prom ∧ t.cfg = s.cfg := by
  by_cases he : e = .powerUp
  · subst he
    cases hn
    exact ⟨rfl, rfl⟩
  · exact (eventClosed_programAndDevice s.prom s.cfg).of_applyEvent he ⟨rfl, rfl⟩ hn

theorem coreTurn_programAndDevice {dec : CodeWord → Option Instr} {s t : State} (hn : coreTurn dec s = .next t) :
    t.prom = s.prom ∧ t.cfg = s.cfg := by
  rcases coreTurn_cases dec s with ⟨-, h⟩ | ⟨src, -, -, -, h⟩ | ⟨-, -, -, -, h⟩ <;> rw [h] at hn
  · cases hn
    exact ⟨rfl, rfl⟩
  · cases hn
    exact ⟨rfl, rfl⟩
  · obtain ⟨i, -, hx⟩ := runInstr_eq_next.mp hn
    obtain ⟨hprom, hcfg, -⟩ := noInstructionReachesTheEnvironment i s.begin t hx
    exact ⟨hprom, hcfg⟩

/-- Settles O44: neither a turn of the core nor an event changes them. -/
theorem stepKeepsProgramAndDevice : Obligations.StepKeepsProgramAndDevice := by
  intro s t hn
  rcases step_core_or_event s with ⟨rest, -, h⟩ | ⟨e, rest, -, h⟩ <;> rw [h] at hn
  · exact coreTurn_programAndDevice (s := s.setEnv rest) hn
  · exact applyEvent_programAndDevice (s := s.setEnv rest) hn

/-! ### The part of the invariant that does not speak of RES -/

/-- The invariant without its condition on RES: the canonical memories, the window of a TMR read, and the flags in halt mode. -/
structure State.Calm (s : State) : Prop where
  ram : Memory.wf s.ram = true
  prom : Memory.promWf s.prom = true
  window : s.tmrRead = true → s.tmrc.ton = true
  haltWindow : s.halted = true → s.tmrRead = false
  haltFlags : s.halted = true → s.cfg.opt.wdtDisable = false → s.status.pd = true ∧ s.status.tmo = false

theorem State.inv_iff {s : State} : s.Inv ↔ s.Calm ∧ (s.pins.res = false → s.InReset) :=
  ⟨fun h => ⟨{ h with }, h.heldInReset⟩, fun h => { h.1 with heldInReset := h.2 }⟩

/-- A running chip with the window closed has its memories to keep alone. -/
theorem State.Calm.of_running {s : State} (hram : Memory.wf s.ram = true) (hprom : Memory.promWf s.prom = true)
    (hwindow : s.tmrRead = false) (hhalt : s.halted = false) : s.Calm where
  ram := hram
  prom := hprom
  window h := by simp [hwindow] at h
  haltWindow h := by simp [hhalt] at h
  haltFlags h := by simp [hhalt] at h

theorem State.Calm.raiseRequests {s : State} (h : s.Calm) (eif tf : Bool) : (raiseRequests eif tf s).Calm := by
  rw [raiseRequests_eq]
  have hhalt {b : Bool} (hb : (s.halted && b) = true) : s.halted = true := (Bool.and_eq_true_iff.mp hb).1
  exact { h with haltWindow := fun hb => h.haltWindow (hhalt hb), haltFlags := fun hb => h.haltFlags (hhalt hb) }

theorem State.Calm.count {s : State} (h : s.Calm) : s.count.Calm := by
  rw [State.count_eq]
  exact { h with window := nofun, haltWindow := fun _ => rfl }

theorem State.Calm.wdtClock {s : State} (h : s.Calm) : (wdtClock s).Calm := by
  rcases wdtClock_cases s with ⟨-, hw⟩ | ⟨-, -, hw⟩ | ⟨-, hhalt, hw⟩ <;> rw [hw]
  · exact { h with }
  · exact .of_running h.ram h.prom rfl rfl
  · exact .of_running h.ram h.prom (h.haltWindow hhalt) rfl

theorem State.Calm.wake {s : State} (h : s.Calm) : s.wake.Calm := { h with haltWindow := nofun, haltFlags := nofun }

theorem State.Calm.resReset {s : State} (h : s.Calm) : s.resReset.Calm := by
  unfold State.resReset
  split <;> exact .of_running h.ram h.prom rfl rfl

theorem eventClosed_calm : EventClosed State.Calm where
  pins _ _ h := { h with }
  presc _ _ h := { h with }
  draws _ _ h := { h with }
  requests _ eif tf h := h.raiseRequests eif tf
  count _ h := h.count
  watchdog _ h := h.wdtClock
  wake _ h := h.wake
  resReset _ h := h.resReset

theorem State.Calm.applyEvent {e : Event} {s t : State} (h : s.Calm) (hn : applyEvent e s = .next t) : t.Calm := by
  by_cases he : e = .powerUp
  · subst he
    cases hn
    exact .of_running s.powerUp_ram_wf h.prom rfl rfl
  · exact eventClosed_calm.of_applyEvent he h hn

/-! ### The same part, under an instruction -/

section
variable {i : Instr} {s t : State}

/-- An instruction keeps the canonical form of RAM. -/
theorem exec_ram_wf (hwf : Memory.wf s.ram = true) (h : exec i s = .next t) : Memory.wf t.ram = true := by
  rcases exec_ram h with hram | ⟨m, v, u, -, -, hu, hram⟩ <;> rw [hram]
  · exact hwf
  · exact writeLoc_wf _ v u (hu ▸ hwf) fun a hl => locate_ram_isRam hl

/-- A data write elsewhere than to TMRC leaves it. -/
theorem writeLoc_tmrc {l : Loc} (hl : l ≠ .tmrc) (v : Byte) (s : State) : (writeLoc l v s).tmrc = s.tmrc := by
  cases l
  case tmrc => exact absurd rfl hl
  all_goals rfl

/-- An instruction opens the window only by a read of TMR while it counts, and so does not stop the counter. -/
theorem exec_window (hclosed : s.tmrRead = false) (h : exec i s = .next t) (hopen : t.tmrRead = true) : t.tmrc.ton = true := by
  have hread {m : OperandAddr} (ho : (afterRead m s).tmrRead = true) : locate m s = .tmr ∧ s.tmrc.ton = true := by
    rcases readEffect_cases (locate m s) s with hs | ⟨hl, hton, -⟩
    · rw [afterRead, hs, hclosed] at ho
      cases ho
    · exact ⟨hl, hton⟩
  have hnever (hs : s.tmrRead = true) : t.tmrc.ton = true := by simp [hclosed] at hs
  cases exec_does h with
  | load a st b =>
    rw [State.skipIf_tmrRead] at hopen
    rw [State.skipIf_tmrc]
    exact (afterRead_tmrc _ _).symm ▸ (hread hopen).2
  | store v st b _ _ hu =>
    rw [State.skipIf_tmrRead, State.setStatus_tmrRead, writeLoc_tmrRead] at hopen
    rw [State.skipIf_tmrc, State.setStatus_tmrc]
    rcases hu with rfl | rfl
    · simp [hclosed] at hopen
    · obtain ⟨hl, hton⟩ := hread hopen
      rw [writeLoc_tmrc (by rw [hl]; decide), afterRead_tmrc]
      exact hton
  | register | jump | call | ret | watchdog => exact hnever hopen

/-- HALT leaves PD = 1 and TO = 0 where the watchdog is enabled (R235). -/
theorem execHalt_flags (h : execHalt s = .next t) (hon : t.cfg.opt.wdtDisable = false) : t.status.pd = true ∧ t.status.tmo = false := by
  cases h
  rw [State.clearWdt3_writeToPd_eq] at hon ⊢
  have hon' : s.cfg.opt.wdtDisable = false := hon
  simp [hon']

/-- Any instruction run from a running chip with the window closed. -/
theorem State.Calm.exec (hcalm : s.Calm) (hhalt : s.halted = false) (hclosed : s.tmrRead = false) (h : exec i s = .next t) :
    t.Calm := by
  obtain ⟨hprom, -⟩ := noInstructionReachesTheEnvironment i s t h
  have hram := exec_ram_wf hcalm.ram h
  by_cases hi : i = .halt
  · subst hi
    have hwindow : t.tmrRead = false := by
      cases h
      rw [State.clearWdt3_writeToPd_eq]
      exact hclosed
    exact {
      ram := hram, prom := hprom ▸ hcalm.prom, window := fun ho => by simp [hwindow] at ho,
      haltWindow := fun _ => hwindow, haltFlags := fun _ => execHalt_flags h }
  · have hrun : t.halted = false := (exec_halted hi h).trans hhalt
    exact {
      ram := hram, prom := hprom ▸ hcalm.prom, window := exec_window hclosed h,
      haltWindow := fun hb => by simp [hrun] at hb, haltFlags := fun hb => by simp [hrun] at hb }

end

theorem State.Calm.coreTurn {dec : CodeWord → Option Instr} {s t : State} (h : s.Calm) (hn : coreTurn dec s = .next t) : t.Calm := by
  rcases coreTurn_cases dec s with ⟨-, hc⟩ | ⟨src, -, hhalt, -, hc⟩ | ⟨-, hhalt, -, -, hc⟩ <;> rw [hc] at hn
  · cases hn
    exact h
  · cases hn
    rw [interruptEntry_eq]
    exact .of_running h.ram h.prom rfl hhalt
  · obtain ⟨i, -, hx⟩ := runInstr_eq_next.mp hn
    have hbegin : s.begin.Calm := .of_running h.ram h.prom rfl hhalt
    exact hbegin.exec hhalt rfl hx

/-! ### While RES is low -/

/-- RES going low leaves the chip in the condition of columns (3) and (4) (R303). -/
theorem State.resReset_inReset (s : State) : s.resReset.InReset := by
  unfold State.resReset
  split
  · exact { s.chipReset_inReset with }
  · exact s.chipReset_inReset

/-- Neither clock moves a pad. -/
theorem clock_pins {e : Event} {s t : State} (he : e = .instrClock ∨ e = .rcClock) (hn : applyEvent e s = .next t) :
    t.pins = s.pins := by
  have hw (u : State) (h : u.pins = s.pins) : (wdtClock u).pins = s.pins := by
    rcases wdtClock_cases u with ⟨-, hc⟩ | ⟨-, -, hc⟩ | ⟨-, -, hc⟩ <;> rw [hc] <;> exact h
  have ht (u v : State) (h : u.pins = s.pins) (hv : timerClock u = .next v) : v.pins = s.pins := by
    rcases timerClock_cases u with hc | ⟨-, hc⟩ | ⟨-, hc⟩ <;> rw [hc] at hv <;> cases hv
    · exact h
    · rw [raiseRequests_eq, State.count_eq]
      exact h
  have hboth {a b : Bool} {u v : State} (h : u.pins = s.pins) (hv : clockBoth a b u = .next v) : v.pins = s.pins :=
    clockBoth_induction (P := fun x => x.pins = s.pins) hw ht (fun _ _ h => h) h hv
  cases hr : s.pins.res
  · rw [applyEvent_clock_of_reset hr he] at hn
    cases hn
    rfl
  · rw [clocks_eq hr he] at hn
    split at hn
    · exact hboth (u := s.prescTick) rfl hn
    · exact hboth (u := s) rfl hn

/-- An edge on the INT/TMR pad leaves the pads as they now are. -/
theorem padEdge_pins {falling : Bool} {s t : State} (hn : padEdge falling s = .next t) : t.pins = s.pins := by
  rcases padEdge_cases falling s with h | ⟨-, h⟩ | ⟨-, h⟩ <;> rw [h] at hn <;> cases hn
  · rw [raiseRequests_eq]
  · rw [raiseRequests_eq, State.count_eq]

/-- An event keeps the condition that holds while RES is low: RES high stays high but for its own event, and while RES is low nothing but
pads, RES and the power changes (R303, log 25). -/
theorem applyEvent_heldInReset {e : Event} {s t : State} (h : s.pins.res = false → s.InReset) (hn : applyEvent e s = .next t)
    (hlow : t.pins.res = false) : t.InReset := by
  have hclock (he : e = .instrClock ∨ e = .rcClock) : t.InReset := by
    have hr : s.pins.res = false := clock_pins he hn ▸ hlow
    rw [applyEvent_clock_of_reset hr he] at hn
    cases hn
    exact h hr
  cases e with
  | instrClock => exact hclock (.inl rfl)
  | rcClock => exact hclock (.inr rfl)
  | intPad level =>
    simp only [applyEvent, intPad] at hn
    split at hn
    · next hr =>
      split at hn
      · cases hn
        exact h hlow
      · rw [padEdge_pins hn] at hlow
        exact absurd hlow (by simp [hr])
    · cases hn
      exact { h hlow with }
  | portA drv lvl =>
    simp only [applyEvent] at hn
    split at hn <;> cases hn
    · next hr =>
      have hpads : (portAPads drv lvl s).pins.res = s.pins.res := by
        unfold portAPads
        dsimp only
        split <;> rfl
      exact absurd (hpads ▸ hlow) (by simp [hr])
    · exact { h hlow with }
  | portB drv lvl | portC drv lvl =>
    cases hn
    exact { h hlow with }
  | resPin level =>
    cases hn
    cases level
    · by_cases hr : s.pins.res = true
      · simp only [resPin, hr, Bool.false_eq_true, if_false, if_true]
        exact { s.resReset_inReset with }
      · simp only [resPin, hr, Bool.false_eq_true, if_false]
        exact h (Bool.not_eq_true _ ▸ hr)
    · cases hlow
  | powerUp =>
    cases hn
    exact s.powerUp_inReset

/-- The core's turn keeps that condition: with RES low it does nothing, and it moves no pad. -/
theorem coreTurn_heldInReset {dec : CodeWord → Option Instr} {s t : State} (h : s.pins.res = false → s.InReset)
    (hn : coreTurn dec s = .next t) (hlow : t.pins.res = false) : t.InReset := by
  rcases coreTurn_cases dec s with ⟨-, hc⟩ | ⟨src, hr, -, -, hc⟩ | ⟨hr, -, -, -, hc⟩ <;> rw [hc] at hn
  · cases hn
    exact h hlow
  · cases hn
    have hlow' : s.pins.res = false := hlow
    simp [hr] at hlow'
  · obtain ⟨i, -, hx⟩ := runInstr_eq_next.mp hn
    obtain ⟨-, -, hpins, -⟩ := noInstructionReachesTheEnvironment i s.begin t hx
    rw [hpins] at hlow
    simp [hr] at hlow

/-! ### The invariant -/

/-- Settles O45: each part of the invariant is kept by a turn of the core and by every event. -/
theorem stepKeepsTheInvariant : Obligations.StepKeepsTheInvariant := by
  intro s t hinv hn
  obtain ⟨hcalm, hheld⟩ := State.inv_iff.mp hinv
  have hcalm' (rest : List Turn) : (s.setEnv rest).Calm := { hcalm with }
  have hheld' (rest : List Turn) (hr : s.pins.res = false) : (s.setEnv rest).InReset := { hheld hr with }
  rw [State.inv_iff]
  rcases step_core_or_event s with ⟨rest, -, h⟩ | ⟨e, rest, -, h⟩ <;> rw [h] at hn
  · exact ⟨(hcalm' rest).coreTurn hn, coreTurn_heldInReset (hheld' rest) hn⟩
  · exact ⟨(hcalm' rest).applyEvent hn, applyEvent_heldInReset (hheld' rest) hn⟩

/-- Settles O46: after reset the chip runs, the window is closed, RES is high and both memories are empty. -/
theorem resetMeetsTheInvariant : Obligations.ResetMeetsTheInvariant :=
  State.inv_iff.mpr ⟨.of_running rfl rfl rfl rfl, nofun⟩

/-- Settles O47: each is a field of State.reset. -/
theorem resetValues : Obligations.ResetValues :=
  ⟨rfl, rfl, rfl, rfl, rfl, rfl, rfl, rfl, rfl, rfl, rfl, rfl, rfl, rfl⟩

/-! ### RES going low -/

/-- The step at which RES goes low (R303). -/
theorem step_resLow {s : State} {rest : List Turn} (hr : s.pins.res = true) (he : s.env = .event (.resPin false) :: rest) :
    step s = .next ((s.setEnv rest).resReset.setPins { s.pins with res := false }) := by
  rw [step_event he, applyEvent, resPin, if_neg Bool.false_ne_true, if_pos (by exact hr)]
  rfl

/-- What RES low leaves as it is: the working registers, TMR, program memory, the device and the schedule (R60, R61). -/
theorem State.resReset_frame (s : State) :
    s.resReset.acc = s.acc ∧ s.resReset.mp = s.mp ∧ s.resReset.tmr = s.tmr ∧ s.resReset.ram = s.ram ∧ s.resReset.prom = s.prom ∧
    s.resReset.cfg = s.cfg ∧ s.resReset.env = s.env ∧ s.resReset.status.c = s.status.c ∧ s.resReset.status.ac = s.status.ac ∧
    s.resReset.status.z = s.status.z ∧ s.resReset.status.ov = s.status.ov := by
  unfold State.resReset
  split <;> exact ⟨rfl, rfl, rfl, rfl, rfl, rfl, rfl, rfl, rfl, rfl, rfl⟩

/-- TO and PD after RES low: unchanged in normal operation, column (3), and 0 and 1 in halt mode, column (4) (R60, log 27). -/
theorem State.resReset_toPd (s : State) :
    (s.halted = false → s.resReset.status.tmo = s.status.tmo ∧ s.resReset.status.pd = s.status.pd) ∧
    (s.halted = true → s.resReset.status.tmo = false ∧ s.resReset.status.pd = true) := by
  unfold State.resReset
  cases s.halted
  · exact ⟨fun _ => ⟨rfl, rfl⟩, nofun⟩
  · exact ⟨nofun, fun _ => ⟨rfl, rfl⟩⟩

/-- Settles O49: the step is RES's reset, which is a chip reset with the flags of its column. -/
theorem resLowResets : Obligations.ResLowResets := by
  intro s t rest hr he hn
  rw [step_resLow hr he] at hn
  cases hn
  obtain ⟨hacc, hmp, htmr, hram, hprom, hcfg, henv, hc, hac, hz, hov⟩ := (s.setEnv rest).resReset_frame
  obtain ⟨hrun, hhalt⟩ := (s.setEnv rest).resReset_toPd
  exact ⟨{ (s.setEnv rest).resReset_inReset with }, rfl, hacc, hmp, htmr, hram, hprom, hcfg, henv, hc, hac, hz, hov, hrun, hhalt⟩

end Sys2Proof.Machine
end

section
/-! PROOFS. The ticks of the two clocks: WatchdogTimeoutInHalt (O51), WatchdogPhaseCountsToTheTimeout (O52), DisabledWatchdogNeverTimesOut
(O53), TimerCountsItsSelectedClock (O54). -/

namespace Sys2Proof.Machine

/-! ### A clock of the timer (R268 to R270) -/

section
variable {s t : State}

/-- A clock of a timer that counts, with no read of TMR under way: TMR goes up by one, and the overflow is a request. -/
theorem timerClock_counts (hn : s.tmrc.ton = true) (h1 : s.tmrc.tm1 = true) (h0 : s.tmrc.tm0 = false) (hr : s.tmrRead = false) :
    timerClock s =
      .next (raiseRequests false (decide (s.tmr.toNat = 255)) { s with tmr := BitVec.ofNat 8 (s.tmr.toNat + 1) }) := by
  rw [timerClock_counting hn h1 h0, State.overflows_of_no_read hr, State.count_of_no_read hr]

/-- The same clock while the core runs: TF at the overflow and only then. -/
theorem timerClock_counts_running (hh : s.halted = false) (hn : s.tmrc.ton = true) (h1 : s.tmrc.tm1 = true)
    (h0 : s.tmrc.tm0 = false) (hr : s.tmrRead = false) :
    timerClock s = .next { s with
      tmr := BitVec.ofNat 8 (s.tmr.toNat + 1), intc := { s.intc with tf := s.intc.tf || decide (s.tmr.toNat = 255) } } := by
  rw [timerClock_counts hn h1 h0 hr, raiseRequests_running (by exact hh)]
  simp only [Bool.or_false]

/-- The same clock during halt: the overflow that raises TF ends the halt, and else the halt goes on (R253). -/
theorem timerClock_counts_halted (hh : s.halted = true) (hn : s.tmrc.ton = true) (h1 : s.tmrc.tm1 = true)
    (h0 : s.tmrc.tm0 = false) (hr : s.tmrRead = false) :
    (s.tmr.toNat = 255 ∧ s.intc.tf = false ∧ ∃ c, timerClock s = .next { s with
      tmr := 0, intc := { s.intc with tf := true }, halted := false, cycles := c }) ∨
    timerClock s = .next { s with
      tmr := BitVec.ofNat 8 (s.tmr.toNat + 1), intc := { s.intc with tf := s.intc.tf || decide (s.tmr.toNat = 255) } } := by
  rw [timerClock_counts hn h1 h0 hr]
  by_cases hrise : s.tmr.toNat = 255 ∧ s.intc.tf = false
  · obtain ⟨h255, htf⟩ := hrise
    refine .inl ⟨h255, htf, (raiseRequests false true { s with tmr := 0 }).cycles, ?_⟩
    rw [decide_eq_true h255, h255, raiseRequests_eq]
    simp [htf]
  · have hstays : (decide (s.tmr.toNat = 255) && !s.intc.tf) = false := by simpa using hrise
    rw [raiseRequests_halted (by exact hh)]
    simp only [Bool.false_and, Bool.or_false, hstays, Bool.false_eq_true, if_false]
    exact .inr rfl

/-- What a clock of the timer leaves alone: everything but TMR, INTC, the window, and with a wake-up the halt. -/
theorem timerClock_frame (h : timerClock s = .next t) :
    t.pc = s.pc ∧ t.status = s.status ∧ t.wdt3 = s.wdt3 ∧ t.presc = s.presc ∧ t.stackFull = s.stackFull ∧
    (s.halted = false → t.halted = false) ∧ (s.tmrc.ton = false → t = s) := by
  rcases timerClock_cases s with hs | ⟨hton, hs⟩ | ⟨-, hs⟩ <;> rw [hs] at h <;> cases h
  · exact ⟨rfl, rfl, rfl, rfl, rfl, fun h => h, fun _ => rfl⟩
  · rw [raiseRequests_eq, State.count_eq]
    exact ⟨rfl, rfl, rfl, rfl, rfl, fun h => by simp [h], fun h => by simp [hton] at h⟩

/-- A clock of the timer is refused in an unused mode with TON = 1 alone (R269). -/
theorem timerClock_runs (h : s.tmrc.ton = false ∨ s.tmrc.tm1 ≠ s.tmrc.tm0) : ∃ t, timerClock s = .next t := by
  cases hn : s.tmrc.ton
  · exact ⟨_, timerClock_idle (.inl hn)⟩
  · have hm : s.tmrc.tm1 ≠ s.tmrc.tm0 := h.resolve_left (by simp [hn])
    cases h1 : s.tmrc.tm1 <;> cases h0 : s.tmrc.tm0
    · exact absurd (h1.trans h0.symm) hm
    · exact ⟨_, timerClock_idle (.inr ⟨h1, h0⟩)⟩
    · exact ⟨_, timerClock_counting hn h1 h0⟩
    · exact absurd (h1.trans h0.symm) hm

end

/-! ### The time-out, with and without a clock of the timer on the same tick -/

section
variable {s : State}

/-- The watchdog reset with no read of TMR under way, whole (R302). -/
theorem State.wdtReset_of_no_read (h : s.tmrRead = false) :
    s.wdtReset = { s with
      pc := 0, stackFull := false, halted := false, wdt3 := 0, status := { s.status with tmo := true },
      intc := Intc.reset, tmrc := Tmrc.reset, paLatch := 0xFF#8, pac := 0xFF#8, pbLatch := 3, pbc := 3, pcLatch := 3, pcc := 3,
      presc := Config.prescAfterReset s.draws, draws := s.draws + 1 } := by
  rw [State.wdtReset_eq, ← h]

theorem wdtTimeout_of_halted (h : s.halted = true) : wdtTimeout s = s.warmReset := if_pos h

theorem wdtTimeout_of_running (h : s.halted = false) : wdtTimeout s = s.wdtReset := if_neg (by simp [h])

/-- What a time-out does in both cases (R254, R262, R302, R305). -/
theorem wdtTimeout_common (s : State) :
    (wdtTimeout s).pc = 0 ∧ (wdtTimeout s).wdt3 = 0 ∧ (wdtTimeout s).halted = false ∧ (wdtTimeout s).stackFull = false ∧
    (wdtTimeout s).status = { s.status with tmo := true } := by
  unfold wdtTimeout
  split <;> exact ⟨rfl, rfl, rfl, rfl, rfl⟩

theorem wdtClock_of_full (h7 : s.wdt3 = 7#3) : wdtClock s = wdtTimeout s := if_pos h7

/-- A time-out that is no clock of the timer. -/
theorem clockBoth_timeout (h7 : s.wdt3 = 7#3) : clockBoth true false s = .next (wdtTimeout s) :=
  congrArg _ (wdtClock_of_full h7)

/-- A time-out that is a clock of the timer too, in either order (log 23): the timer's clock on the state after the time-out, or the
time-out on the state after the timer's clock. -/
theorem clockBoth_timeout_orders (h7 : s.wdt3 = 7#3) : ∃ d,
    clockBoth true true s = timerClock (wdtTimeout (s.setDraws d)) ∨
    ((∀ t, timerClock (s.setDraws d) = .next t → clockBoth true true s = .next (wdtTimeout t)) ∧
      ∀ why, timerClock (s.setDraws d) = .refused why → clockBoth true true s = .refused why) := by
  refine ⟨s.draws + 1, ?_⟩
  simp only [clockBoth, if_pos h7]
  split
  · refine .inr ⟨fun t ht => ?_, fun why ht => ?_⟩
    · obtain ⟨-, -, hwdt, -⟩ := timerClock_frame ht
      have h7' : t.wdt3 = 7#3 := hwdt.trans h7
      simp only [ht, wdtClock_of_full h7']
    · simp only [ht]
  · exact .inl (congrArg _ (wdtClock_of_full (by exact h7)))

/-- A time-out on a tick that is a clock of a timer that is off or counts external events: the timer plays no part in either order. -/
theorem clockBoth_timeout_idle (h7 : s.wdt3 = 7#3) (tmr : Bool)
    (hidle : tmr = false ∨ s.tmrc.ton = false ∨ (s.tmrc.tm1 = false ∧ s.tmrc.tm0 = true)) :
    ∃ d, clockBoth true tmr s = .next (wdtTimeout (s.setDraws d)) := by
  cases tmr
  · exact ⟨s.draws, clockBoth_timeout h7⟩
  · have hoff := hidle.resolve_left Bool.noConfusion
    obtain ⟨d, hafter | ⟨hbefore, -⟩⟩ := clockBoth_timeout_orders h7
    · refine ⟨d, hafter.trans (timerClock_idle ?_)⟩
      unfold wdtTimeout
      split
      · exact hoff
      · exact .inl rfl
    · exact ⟨d, hbefore _ (timerClock_idle hoff)⟩

end

/-! ### What a tick is, from the numbers of its state -/

section
variable {s : State} {e : Event} {rest : List Turn}

/-- The state on which the taps' ticks arrive: the turn is used, and the prescaler has moved where it is fed. -/
def State.ticked (s : State) (e : Event) (rest : List Turn) : State :=
  { s with env := rest, presc := if s.feedsPrescaler e then BitVec.ofNat 8 (s.presc.toNat + 1) else s.presc }

theorem State.wdtTimesOut_iff : s.wdtTimesOut e = true ↔ s.wdtTicks e = true ∧ s.wdt3 = 7#3 := by
  rw [State.wdtTimesOut, Bool.and_eq_true, decide_eq_true_eq]
  exact and_congr_right fun _ => BitVec.toNat_inj (y := 7#3)

/-- A tick that is the time-out (R260, R263). -/
theorem step_timeout (hr : s.pins.res = true) (hs : s.env = .event e :: rest) (he : e = .instrClock ∨ e = .rcClock)
    (ht : s.wdtTimesOut e = true) : step s = clockBoth true (s.timerTicks e) (s.ticked e rest) := by
  obtain ⟨hw, -⟩ := State.wdtTimesOut_iff.mp ht
  rw [step_clock hr hs he, hw]
  rfl

/-- With the watchdog disabled no tick reaches it (R265). -/
theorem State.wdtTicks_of_disabled (h : s.cfg.opt.wdtDisable = true) (e : Event) : s.wdtTicks e = false := by
  simp [State.wdtTicks, h]

theorem State.wdtTimesOut_of_disabled (h : s.cfg.opt.wdtDisable = true) (e : Event) : s.wdtTimesOut e = false := by
  simp [State.wdtTimesOut, State.wdtTicks_of_disabled h]

end

/-! ### The time-out during halt -/

/-- Settles O51: the tick is the warm reset; with a count on it, after the count, or before it, or after a count that woke the core. -/
theorem watchdogTimeoutInHalt : Obligations.WatchdogTimeoutInHalt := by
  intro s hh h7
  refine ⟨⟨_, _, (wdtClock_of_full h7).trans (wdtTimeout_of_halted hh)⟩, fun rest hr hs ht => ?_⟩
  intro warm
  have hwarm (d : Nat) : ∃ p d', wdtTimeout ((s.ticked .rcClock rest).setDraws d) = warm p d' :=
    ⟨_, _, wdtTimeout_of_halted (by exact hh)⟩
  rw [step_timeout hr hs (.inr rfl) ht]
  refine ⟨fun hidle => ?idle, fun htick hn h1 h0 hread => ?counts, fun htick hn hm => ?unused⟩
  case idle =>
    obtain ⟨d, h⟩ := clockBoth_timeout_idle (s := s.ticked .rcClock rest) h7 _ hidle
    obtain ⟨p, d', hw⟩ := hwarm d
    exact ⟨p, d', by rw [h, hw]⟩
  case unused =>
    rw [htick]
    obtain ⟨d, hafter | ⟨-, hbefore⟩⟩ := clockBoth_timeout_orders (s := s.ticked .rcClock rest) h7
    · obtain ⟨p, d', hw⟩ := hwarm d
      rw [hafter, hw]
      exact timerClock_unused hn hm
    · exact hbefore _ (timerClock_unused hn hm)
  case counts =>
    rw [htick]
    obtain ⟨d, hafter | ⟨hbefore, -⟩⟩ := clockBoth_timeout_orders (s := s.ticked .rcClock rest) h7
    · obtain ⟨p, d', hw⟩ := hwarm d
      refine ⟨p, d', .inl ?_⟩
      rw [hafter, hw]
      exact timerClock_counts_running rfl hn h1 h0 hread
    · rcases timerClock_counts_halted (s := (s.ticked .rcClock rest).setDraws d) hh hn h1 h0 hread with ⟨h255, htf, c, hc⟩ | hc
      · refine ⟨Config.prescAfterReset d, d + 1, .inr ⟨h255, htf, c, ?_⟩⟩
        rw [hbefore _ hc, wdtTimeout_of_running rfl, State.wdtReset_of_no_read (by exact hread)]
        rfl
      · refine ⟨Config.prescAfterReset d, d + 1, .inl ?_⟩
        rw [hbefore _ hc, wdtTimeout_of_halted (by exact hh)]
        rfl

/-! ### The watchdog's phase (R260, R263) -/

/-- The watchdog's phase: the periods of the tap that WDT3 has counted, and the part of one that the prescaler has gone through. -/
def State.wdtPhase (tap : Nat) (s : State) : Nat := s.wdt3.toNat * tap + s.presc.toNat % tap

section
variable {s : State} {e : Event} {rest : List Turn}

/-- What feeds the prescaler completes the watchdog's division where the low bits of the prescaler return to 0. -/
theorem State.wdtTicks_iff (hfeeds : s.feedsPrescaler e = true) (hon : s.cfg.opt.wdtDisable = false) :
    s.wdtTicks e = true ↔ (s.presc.toNat + 1) % 2 ^ (s.cfg.opt.wdtDiv.toNat + 5) = 0 := by
  simp [State.wdtTicks, State.tapCompletes, hfeeds, hon]

/-- The time-out is the tick at which the phase would reach eight periods of the tap. -/
theorem State.wdtTimesOut_iff_phase (hfeeds : s.feedsPrescaler e = true) (hon : s.cfg.opt.wdtDisable = false) :
    s.wdtTimesOut e = true ↔
      s.wdtPhase (2 ^ (s.cfg.opt.wdtDiv.toNat + 5)) + 1 = 8 * 2 ^ (s.cfg.opt.wdtDiv.toNat + 5) := by
  have hn := s.cfg.opt.wdtDiv.isLt
  have hw := s.wdt3.isLt
  rw [State.wdtTimesOut, Bool.and_eq_true, decide_eq_true_eq, State.wdtTicks_iff hfeeds hon, State.wdtPhase]
  generalize s.cfg.opt.wdtDiv.toNat = n at hn ⊢
  interval_cases n <;> omega

/-- A tick that is no time-out moves the phase by one. -/
theorem State.afterTick_wdtPhase (hfeeds : s.feedsPrescaler e = true) (hon : s.cfg.opt.wdtDisable = false)
    (hno : s.wdtTimesOut e = false) :
    (s.afterTick e rest).wdtPhase (2 ^ (s.cfg.opt.wdtDiv.toNat + 5)) =
      s.wdtPhase (2 ^ (s.cfg.opt.wdtDiv.toNat + 5)) + 1 := by
  have hn := s.cfg.opt.wdtDiv.isLt
  have hw := s.wdt3.isLt
  have hp : (s.afterTick e rest).presc.toNat = (s.presc.toNat + 1) % 256 := by
    simp only [State.afterTick, hfeeds, if_true, BitVec.toNat_ofNat]
  have htick := State.wdtTicks_iff hfeeds hon
  rw [State.wdtTimesOut, Bool.and_eq_false_iff, decide_eq_false_iff_not] at hno
  simp only [State.wdtPhase, hp]
  by_cases hc : s.wdtTicks e = true
  · have h7 : s.wdt3.toNat ≠ 7 := hno.resolve_left (by simp [hc])
    have hw3 : (s.afterTick e rest).wdt3.toNat = s.wdt3.toNat + 1 := by
      simp only [State.afterTick, hc, if_true, BitVec.toNat_ofNat]
      omega
    have hzero := htick.mp hc
    rw [hw3]
    generalize s.cfg.opt.wdtDiv.toNat = n at hn hzero ⊢
    interval_cases n <;> omega
  · have hw3 : (s.afterTick e rest).wdt3 = s.wdt3 := by simp [State.afterTick, hc]
    have hnonzero := mt htick.mpr hc
    rw [hw3]
    generalize s.cfg.opt.wdtDiv.toNat = n at hn hnonzero ⊢
    interval_cases n <;> omega

/-- A tick that is no time-out leaves the counter, STATUS and, but for an overflow of a timer that counts in halt, the halt. -/
theorem step_tick_frame (hr : s.pins.res = true) (hs : s.env = .event e :: rest) (he : e = .instrClock ∨ e = .rcClock)
    (hno : s.wdtTimesOut e = false) {t : State} (hn : step s = .next t) :
    t.pc = s.pc ∧ t.status = s.status ∧ t.wdt3 = (s.afterTick e rest).wdt3 ∧ t.presc = (s.afterTick e rest).presc ∧
    (s.halted = false → t.halted = false) ∧ (s.timerTicks e = false ∨ s.tmrc.ton = false → t.halted = s.halted) := by
  rw [step_tick hr hs he hno] at hn
  split at hn
  · next htick =>
    obtain ⟨hpc, hst, hwdt, hpresc, -, hrun, hoff⟩ := timerClock_frame hn
    refine ⟨hpc, hst, hwdt, hpresc, hrun, fun h => ?_⟩
    rcases h with h | h
    · simp [htick] at h
    · rw [hoff h]
      rfl
  · cases hn
    exact ⟨rfl, rfl, rfl, rfl, fun h => h, fun _ => rfl⟩

/-- A tick is refused in an unused mode with TON = 1 alone, and there only where it is a clock of the timer (R269). -/
theorem step_tick_runs (hr : s.pins.res = true) (hs : s.env = .event e :: rest) (he : e = .instrClock ∨ e = .rcClock)
    (hno : s.wdtTimesOut e = false) (hmode : s.tmrc.ton = false ∨ s.tmrc.tm1 ≠ s.tmrc.tm0 ∨ s.timerTicks e = false) :
    ∃ t, step s = .next t := by
  rw [step_tick hr hs he hno]
  split
  · next htick => exact timerClock_runs (s := s.afterTick e rest) (hmode.imp_right fun h => h.resolve_right (by simp [htick]))
  · exact ⟨_, rfl⟩

/-- A tick that is the time-out resets the counter, the stack, the halt and WDT3, and sets TO, in whichever order the timer sees it. -/
theorem step_timeout_common (hr : s.pins.res = true) (hs : s.env = .event e :: rest) (he : e = .instrClock ∨ e = .rcClock)
    (ht : s.wdtTimesOut e = true) (hmode : s.tmrc.ton = false ∨ s.tmrc.tm1 ≠ s.tmrc.tm0 ∨ s.timerTicks e = false) :
    ∃ t, step s = .next t ∧ t.pc = 0 ∧ t.wdt3 = 0 ∧ t.halted = false ∧ t.stackFull = false ∧
      t.status = { s.status with tmo := true } := by
  obtain ⟨-, h7⟩ := State.wdtTimesOut_iff.mp ht
  rw [step_timeout hr hs he ht]
  cases htick : s.timerTicks e
  · exact ⟨_, clockBoth_timeout (by exact h7), wdtTimeout_common (s.ticked e rest)⟩
  · have hok : s.tmrc.ton = false ∨ s.tmrc.tm1 ≠ s.tmrc.tm0 := hmode.imp_right fun h => h.resolve_right (by simp [htick])
    obtain ⟨d, hafter | ⟨hbefore, -⟩⟩ := clockBoth_timeout_orders (s := s.ticked e rest) h7
    · obtain ⟨hpc, hwdt, hhalt, hstack, hst⟩ := wdtTimeout_common ((s.ticked e rest).setDraws d)
      have hok' : (wdtTimeout ((s.ticked e rest).setDraws d)).tmrc.ton = false ∨
          (wdtTimeout ((s.ticked e rest).setDraws d)).tmrc.tm1 ≠ (wdtTimeout ((s.ticked e rest).setDraws d)).tmrc.tm0 := by
        unfold wdtTimeout
        split
        · exact hok
        · exact .inl rfl
      obtain ⟨t, hn⟩ := timerClock_runs hok'
      obtain ⟨hpc', hst', hwdt', -, hstack', hrun, -⟩ := timerClock_frame hn
      exact ⟨t, hafter.trans hn, hpc'.trans hpc, hwdt'.trans hwdt, hrun hhalt, hstack'.trans hstack, hst'.trans hst⟩
    · obtain ⟨t, hn⟩ := timerClock_runs (s := (s.ticked e rest).setDraws d) hok
      obtain ⟨-, hst', -⟩ := timerClock_frame hn
      obtain ⟨hpc, hwdt, hhalt, hstack, hst⟩ := wdtTimeout_common t
      exact ⟨_, hbefore t hn, hpc, hwdt, hhalt, hstack, by rw [hst, hst']; rfl⟩

end

/-- Settles O52: short of eight periods the tick moves the phase by one, and at eight it is the time-out. -/
theorem watchdogPhaseCountsToTheTimeout : Obligations.WatchdogPhaseCountsToTheTimeout := by
  intro s e rest hr hon hs hsource hmode tap phase
  have he : e = .instrClock ∨ e = .rcClock := hsource.symm.imp (·.2.2) (·.2)
  have hfeeds : s.feedsPrescaler e = true := by
    rcases hsource with ⟨hsrc, rfl⟩ | ⟨hsrc, hrun, rfl⟩
    · simp [State.feedsPrescaler, hsrc, hon]
    · simp [State.feedsPrescaler, hsrc, hrun]
  have hmode' : s.tmrc.ton = false ∨ s.tmrc.tm1 ≠ s.tmrc.tm0 ∨ s.timerTicks e = false :=
    hmode.imp_right fun h => h.imp_right fun ⟨hsrc, hrc⟩ => by simp [State.timerTicks, hsrc, hrc]
  have hphase := State.wdtTimesOut_iff_phase hfeeds hon
  refine ⟨fun hlt => ?_, fun heq => step_timeout_common hr hs he (hphase.mpr heq) hmode'⟩
  have hno : s.wdtTimesOut e = false := Bool.eq_false_iff.mpr fun h => hlt.ne (hphase.mp h)
  obtain ⟨t, hn⟩ := step_tick_runs hr hs he hno hmode'
  obtain ⟨hpc, hst, hwdt, hpresc, hrun, hidle⟩ := step_tick_frame hr hs he hno hn
  refine ⟨t, hn, ?_, hpc, hst, fun hoff => ?_⟩
  · have hmoved := State.afterTick_wdtPhase (rest := rest) hfeeds hon hno
    rw [State.wdtPhase, ← hwdt, ← hpresc] at hmoved
    exact hmoved
  · rcases hoff with hoff | hsrc
    · exact hidle (.inr hoff)
    · rcases hsource with ⟨-, rfl⟩ | ⟨-, hrunning, -⟩
      · exact hidle (.inl (by simp [State.timerTicks, hsrc]))
      · rw [hrun hrunning, hrunning]

/-! ### The watchdog disabled by option (R265) -/

section
variable {s t : State}

/-- With the watchdog disabled a tick of either clock leaves WDT3, STATUS and the counter. -/
theorem step_tick_disabled {e : Event} {rest : List Turn} (hoff : s.cfg.opt.wdtDisable = true) (hs : s.env = .event e :: rest)
    (he : e = .instrClock ∨ e = .rcClock) (hn : step s = .next t) :
    t.wdt3 = s.wdt3 ∧ t.status = s.status ∧ t.pc = s.pc := by
  cases hr : s.pins.res
  · rw [step_event hs, applyEvent_clock_of_reset (by exact hr) he] at hn
    cases hn
    exact ⟨rfl, rfl, rfl⟩
  · obtain ⟨hpc, hst, hwdt, -⟩ := step_tick_frame hr hs he (State.wdtTimesOut_of_disabled hoff e) hn
    refine ⟨hwdt.trans ?_, hst, hpc⟩
    simp [State.afterTick, State.wdtTicks_of_disabled hoff e]

/-- An edge on the INT/TMR pad leaves STATUS. -/
theorem padEdge_status {falling : Bool} (hn : padEdge falling s = .next t) : t.status = s.status := by
  rcases padEdge_cases falling s with h | ⟨-, h⟩ | ⟨-, h⟩ <;> rw [h] at hn <;> cases hn
  · rw [raiseRequests_eq]
  · rw [raiseRequests_eq, State.count_eq]

/-- An event that is no clock does not set TO. -/
theorem applyEvent_tmo {e : Event} (hi : e ≠ .instrClock) (hc : e ≠ .rcClock) (hn : applyEvent e s = .next t)
    (ht : t.status.tmo = true) : s.status.tmo = true := by
  cases e with
  | instrClock => exact absurd rfl hi
  | rcClock => exact absurd rfl hc
  | intPad level =>
    simp only [applyEvent, intPad] at hn
    split at hn
    · split at hn
      · cases hn
        exact ht
      · rwa [padEdge_status hn] at ht
    · cases hn
      exact ht
  | portA drv lvl =>
    have hst : (portAPads drv lvl s).status = s.status := by
      unfold portAPads
      dsimp only
      split <;> rfl
    simp only [applyEvent] at hn
    split at hn <;> cases hn
    · rwa [hst] at ht
    · exact ht
  | portB drv lvl | portC drv lvl =>
    cases hn
    exact ht
  | resPin level =>
    cases hn
    unfold resPin at ht
    split at ht
    · exact ht
    · split at ht
      · cases hh : s.halted
        · rwa [State.setPins_status, ((s.resReset_toPd).1 hh).1] at ht
        · rw [State.setPins_status, ((s.resReset_toPd).2 hh).1] at ht
          cases ht
      · exact ht
  | powerUp =>
    cases hn
    cases ht

/-- CLR WDT and HALT do not set TO. -/
theorem State.writeToPd_tmo (pd : Bool) (ht : (s.clearWdt3.writeToPd false pd).status.tmo = true) : s.status.tmo = true := by
  rw [State.clearWdt3_writeToPd_eq, State.setStatus_status] at ht
  split at ht
  · exact ht
  · cases ht

/-- No instruction sets TO. -/
theorem exec_tmo {i : Instr} (hn : exec i s = .next t) (ht : t.status.tmo = true) : s.status.tmo = true := by
  by_cases hc : i = .clrWdt
  · subst hc
    cases hn
    exact State.writeToPd_tmo false ht
  by_cases hh : i = .halt
  · subst hh
    cases hn
    exact State.writeToPd_tmo true ht
  · obtain ⟨htmo, -⟩ := onlyClrWdtAndHaltChangeToAndPd i s t hn hc hh
    rwa [htmo] at ht

/-- No turn of the core sets TO. -/
theorem coreTurn_tmo {dec : CodeWord → Option Instr} (hn : coreTurn dec s = .next t) (ht : t.status.tmo = true) :
    s.status.tmo = true := by
  rcases coreTurn_cases dec s with ⟨-, h⟩ | ⟨src, -, -, -, h⟩ | ⟨-, -, -, -, h⟩ <;> rw [h] at hn
  · cases hn
    exact ht
  · cases hn
    exact ht
  · obtain ⟨i, -, hx⟩ := runInstr_eq_next.mp hn
    exact exec_tmo (s := s.begin) hx ht

/-- CLR WDT and HALT leave WDT3 with the watchdog disabled. -/
theorem State.clearWdt3_of_disabled (hoff : s.cfg.opt.wdtDisable = true) (tmo pd : Bool) :
    (s.clearWdt3.writeToPd tmo pd).wdt3 = s.wdt3 := by
  rw [State.clearWdt3_writeToPd_eq, State.setStatus_wdt3, State.setWdt3_wdt3, if_pos hoff]

end

/-- Settles O53: only a tick of the watchdog's tap could time out, and with the watchdog disabled there is none. -/
theorem disabledWatchdogNeverTimesOut : Obligations.DisabledWatchdogNeverTimesOut := by
  refine ⟨fun s t rest hoff hs hn => ?_, fun s t hoff hn ht => ?_, fun s t hoff hn => ?_⟩
  · rcases hs with hs | hs
    · exact step_tick_disabled hoff hs (.inr rfl) hn
    · exact step_tick_disabled hoff hs (.inl rfl) hn
  · rcases step_core_or_event s with ⟨rest, -, h⟩ | ⟨e, rest, he, h⟩
    · rw [h] at hn
      exact coreTurn_tmo (s := s.setEnv rest) hn ht
    · by_cases hclock : e = .instrClock ∨ e = .rcClock
      · obtain ⟨-, hst, -⟩ := step_tick_disabled hoff he hclock hn
        rwa [hst] at ht
      · rw [h] at hn
        exact applyEvent_tmo (s := s.setEnv rest) (fun hi => hclock (.inl hi)) (fun hc => hclock (.inr hc)) hn ht
  · rcases hn with hn | hn <;> cases hn
    · exact State.clearWdt3_of_disabled hoff false false
    · exact State.clearWdt3_of_disabled hoff false true

/-! ### The timer's clock while the core runs -/

section
variable {s : State} {e : Event} {rest : List Turn}

/-- An active clock counts once or not at all (R270, R271). -/
theorem State.count_tmr (s : State) : s.count.tmr = s.tmr ∨ s.count.tmr = BitVec.ofNat 8 (s.tmr.toNat + 1) := by
  rw [State.count_eq, ← increment_eq_ofNat]
  dsimp only
  split
  · exact .inl rfl
  · exact .inr rfl

/-- A time-out while the core runs: the chip reset of R302 with TO set, and TMR as it was. -/
theorem wdtTimeout_running_fields (hrun : s.halted = false) :
    (wdtTimeout s).pc = 0 ∧ (wdtTimeout s).wdt3 = 0 ∧ (wdtTimeout s).intc = Intc.reset ∧ (wdtTimeout s).tmrc = Tmrc.reset ∧
    (wdtTimeout s).status = { s.status with tmo := true } ∧ (wdtTimeout s).tmr = s.tmr := by
  rw [wdtTimeout_of_running hrun]
  exact ⟨rfl, rfl, rfl, rfl, rfl, rfl⟩

/-- What a time-out while the core runs leaves, where the timer has counted before it or not. -/
theorem step_timeout_running (hr : s.pins.res = true) (hrun : s.halted = false) (hs : s.env = .event e :: rest)
    (he : e = .instrClock ∨ e = .rcClock) (ht : s.wdtTimesOut e = true) :
    (s.timerTicks e = true ∧ s.tmrc.ton = true ∧ s.tmrc.tm1 = s.tmrc.tm0 ∧ step s = .refused .timerModeUnused) ∨
    ∃ u, step s = .next (wdtTimeout u) ∧ u.halted = false ∧ u.status = s.status ∧
      (u.tmr = s.tmr ∨ (s.timerTicks e = true ∧ s.tmrc.ton = true ∧ s.tmrc.tm1 = true ∧ s.tmrc.tm0 = false ∧
        u.tmr = BitVec.ofNat 8 (s.tmr.toNat + 1))) := by
  obtain ⟨-, h7⟩ := State.wdtTimesOut_iff.mp ht
  rw [step_timeout hr hs he ht]
  cases htick : s.timerTicks e
  · exact .inr ⟨_, clockBoth_timeout (by exact h7), hrun, rfl, .inl rfl⟩
  obtain ⟨d, hafter | ⟨hbefore, hrefused⟩⟩ := clockBoth_timeout_orders (s := s.ticked e rest) h7
  · have hoff : (wdtTimeout ((s.ticked e rest).setDraws d)).tmrc.ton = false := by
      rw [wdtTimeout_of_running (by exact hrun)]
      rfl
    exact .inr ⟨_, hafter.trans (timerClock_idle (.inl hoff)), hrun, rfl, .inl rfl⟩
  · cases hn : s.tmrc.ton
    · exact .inr ⟨_, hbefore _ (timerClock_idle (.inl hn)), hrun, rfl, .inl rfl⟩
    cases h1 : s.tmrc.tm1 <;> cases h0 : s.tmrc.tm0
    · exact .inl ⟨rfl, rfl, rfl, hrefused _ (timerClock_unused hn (h1.trans h0.symm))⟩
    · exact .inr ⟨_, hbefore _ (timerClock_idle (.inr ⟨h1, h0⟩)), hrun, rfl, .inl rfl⟩
    · have hcount := timerClock_counting (s := (s.ticked e rest).setDraws d) hn h1 h0
      obtain ⟨-, hst, -, -, -, hstays, -⟩ := timerClock_frame hcount
      refine .inr ⟨_, hbefore _ hcount, hstays hrun, hst, ?_⟩
      rw [raiseRequests_eq]
      exact ((s.ticked e rest).setDraws d).count_tmr.imp_right fun h => ⟨rfl, rfl, rfl, rfl, h⟩
    · exact .inl ⟨rfl, rfl, rfl, hrefused _ (timerClock_unused hn (h1.trans h0.symm))⟩

end

/-- Settles O54: a tick that is no time-out is the timer's clock where it is one; a time-out is a chip reset, with or without a count. -/
theorem timerCountsItsSelectedClock : Obligations.TimerCountsItsSelectedClock := by
  intro s e rest hr hrun hs he
  refine ⟨fun hno => ?_, fun ht => ?_⟩
  · rw [step_tick hr hs he hno]
    refine ⟨fun htick hn h1 h0 hread => ?_, fun hidle => ?_, fun htick hn hm => ?_⟩
    · rw [htick]
      exact timerClock_counts_running (s := s.afterTick e rest) hrun hn h1 h0 hread
    · split
      · next htick => exact timerClock_idle (s := s.afterTick e rest) (hidle.resolve_left (by simp [htick]))
      · rfl
    · rw [htick]
      exact timerClock_unused (s := s.afterTick e rest) hn hm
  · rcases step_timeout_running hr hrun hs he ht with hrefused | ⟨u, hn, hu, hst, htmr⟩
    · exact .inl hrefused
    · obtain ⟨hpc, hwdt, hintc, htmrc, hst', htmr'⟩ := wdtTimeout_running_fields hu
      rw [hst] at hst'
      rw [← htmr'] at htmr
      exact .inr ⟨_, hn, hpc, hwdt, hintc, htmrc, hst', htmr⟩

end Sys2Proof.Machine
end

section
/-! PROOFS. The window of a TMR read, and the edges on the pads, while running and during halt: ReadOfTmrLosesAtMostOneCount (O55),
PadEdgeRequestsAndCounts (O56), RequestWakesOnlyWhenItRises (O57), PortAFallWakes (O58). -/

namespace Sys2Proof.Machine

/-! ### An edge on the INT/TMR pad (R242, R268, R269) -/

section
variable {s : State} {falling : Bool}

/-- An edge that TE does not choose, or with TON = 0, or in timer mode, is a request alone. -/
theorem padEdge_request (h : (s.tmrc.ton && (s.tmrc.te == falling)) = false ∨ (s.tmrc.tm1 = true ∧ s.tmrc.tm0 = false)) :
    padEdge falling s = .next (raiseRequests falling false s) := by
  unfold padEdge Tmrc.mode
  rcases h with h | ⟨h1, h0⟩
  · rw [h]
    rfl
  · rw [h1, h0]
    split <;> rfl

/-- The edge TE chooses counts in event count mode. -/
theorem padEdge_counting (h : (s.tmrc.ton && (s.tmrc.te == falling)) = true) (h1 : s.tmrc.tm1 = false) (h0 : s.tmrc.tm0 = true) :
    padEdge falling s = .next (raiseRequests falling s.overflows s.count) := by
  unfold padEdge Tmrc.mode
  rw [if_pos h, h1, h0]

/-- The same edge with no read of TMR under way. -/
theorem padEdge_counts (h : (s.tmrc.ton && (s.tmrc.te == falling)) = true) (h1 : s.tmrc.tm1 = false) (h0 : s.tmrc.tm0 = true)
    (hr : s.tmrRead = false) : padEdge falling s =
      .next (raiseRequests falling (decide (s.tmr.toNat = 255)) { s with tmr := BitVec.ofNat 8 (s.tmr.toNat + 1) }) := by
  rw [padEdge_counting h h1 h0, State.overflows_of_no_read hr, State.count_of_no_read hr]

/-- The edge TE chooses in an unused mode with TON = 1. -/
theorem padEdge_unused (h : (s.tmrc.ton && (s.tmrc.te == falling)) = true) (hm : s.tmrc.tm1 = s.tmrc.tm0) :
    padEdge falling s = .refused .timerModeUnused := by
  unfold padEdge Tmrc.mode
  rw [if_pos h, hm]
  cases s.tmrc.tm0 <;> rfl

/-- The state on which an edge arrives: the turn is used, and the INT/TMR pad is at its new level. -/
def State.padAt (s : State) (level : Bool) (rest : List Turn) : State :=
  { s with env := rest, pins := { s.pins with int := level } }

/-- A change of the INT/TMR pad is an edge, seen with the pad at its new level (R242). -/
theorem step_intPad {level : Bool} {rest : List Turn} (hr : s.pins.res = true) (hs : s.env = .event (.intPad level) :: rest)
    (hlevel : s.pins.int = !level) :
    step s = padEdge (!level) (s.padAt level rest) := by
  rw [step_event hs, applyEvent, if_pos (by exact hr), intPad, if_neg]
  · rfl
  · rw [State.setEnv_pins, hlevel]
    cases level <;> decide

end

/-- Settles O56: while running, the edge is a request, a count with a request, or refused. -/
theorem padEdgeRequestsAndCounts : Obligations.PadEdgeRequestsAndCounts := by
  intro s level rest hr hrun hlevel hs counts seen
  rw [step_intPad hr hs hlevel]
  refine ⟨fun h => ?_, fun hc h1 h0 hread => ?_, fun hc hm => ?_⟩
  · rw [padEdge_request (s := s.padAt level rest) h, raiseRequests_running (s := s.padAt level rest) hrun]
    simp only [Bool.or_false]
    rfl
  · rw [padEdge_counts (s := s.padAt level rest) hc h1 h0 hread, raiseRequests_running (by exact hrun)]
    rfl
  · exact padEdge_unused (s := s.padAt level rest) hc hm

/-! ### The window of a TMR read (R271, D31) -/

section
variable {s : State}

/-- An overflow is a count from FFH that is not lost (R270, R271). -/
theorem State.overflows_eq (s : State) : s.overflows = (!s.losesCount && decide (s.tmr.toNat = 255)) := by
  rw [State.overflows]
  exact congrArg _ (decide_eq_decide.mpr (BitVec.toNat_inj (y := 0xFF#8)).symm)

/-- One active clock with its request: it counts once, with TF at the overflow, or is lost. -/
theorem State.count_once_or_lost (s : State) :
    (s.count.tmr = s.tmr ∧ s.overflows = false) ∨
    (s.count.tmr = BitVec.ofNat 8 (s.tmr.toNat + 1) ∧ s.overflows = decide (s.tmr.toNat = 255)) := by
  rw [State.count_eq, State.overflows_eq, ← increment_eq_ofNat]
  cases s.losesCount
  · exact .inr ⟨rfl, rfl⟩
  · exact .inl ⟨rfl, rfl⟩

/-- A flag that rises is one that is 1 now and was 0. -/
theorem rises_eq (old new : Bool) : ((old || new) && !old) = (new && !old) := by
  cases old <;> cases new <;> rfl

/-- A request on a state that differs from `s` by a count alone. -/
theorem raiseRequests_of_counted {u : State} {v : Byte} {d : Nat} (hu : u = { s with tmr := v, tmrRead := false, draws := d })
    (eif tf : Bool) : raiseRequests eif tf u = { s with
      tmr := v, intc := { s.intc with eif := s.intc.eif || eif, tf := s.intc.tf || tf }, tmrRead := false, draws := d,
      halted := s.halted && !((eif && !s.intc.eif) || (tf && !s.intc.tf)), cycles := (raiseRequests eif tf u).cycles } := by
  subst hu
  exact raiseRequests_eq _ _ _

/-- An active clock in the window closes it and draws one free value (R271, log 4). -/
theorem State.count_in_window (hread : s.tmrRead = true) :
    s.count = { s with tmr := s.count.tmr, tmrRead := false, draws := s.draws + 1 } := by
  rw [State.count_eq, if_pos hread]

/-- An active clock in the window, with the requests that come with it: once or not at all, the window closed, one free value drawn, and
the halt ended exactly by a flag that rises. -/
theorem raiseRequests_count_in_window (hread : s.tmrRead = true) (eif : Bool) {t : State}
    (ht : raiseRequests eif s.overflows s.count = t) :
    ((t.tmr = s.tmr ∧ t.intc.tf = s.intc.tf) ∨
      (t.tmr = BitVec.ofNat 8 (s.tmr.toNat + 1) ∧ t.intc.tf = (s.intc.tf || decide (s.tmr.toNat = 255)))) ∧
    t = { s with
      tmr := t.tmr, intc := { s.intc with eif := s.intc.eif || eif, tf := t.intc.tf }, tmrRead := false, draws := s.draws + 1,
      halted := s.halted && !(((s.intc.eif || eif) && !s.intc.eif) || (t.intc.tf && !s.intc.tf)), cycles := t.cycles } ∧
    (s.halted = false → t.cycles = s.cycles) := by
  have hcount := State.count_in_window hread
  have heq := raiseRequests_of_counted hcount eif s.overflows
  rw [ht] at heq
  have htf : t.intc.tf = (s.intc.tf || s.overflows) := by rw [heq]
  have htmr : t.tmr = s.count.tmr := by rw [heq]
  refine ⟨?_, ?_, fun hrun => ?_⟩
  · rw [htf, htmr]
    rcases s.count_once_or_lost with ⟨hc, ho⟩ | ⟨hc, ho⟩ <;> rw [hc, ho]
    · exact .inl ⟨rfl, Bool.or_false _⟩
    · exact .inr ⟨rfl, rfl⟩
  · rw [htf, htmr, rises_eq, rises_eq]
    exact heq
  · have hhalt : s.count.halted = s.halted := by rw [State.count_eq]
    have hcycles : s.count.cycles = s.cycles := by rw [State.count_eq]
    rw [← ht, raiseRequests_running (hhalt.trans hrun)]
    exact hcycles

end

/-- Settles O55: the count of the tick or of the edge is one in the window. -/
theorem readOfTmrLosesAtMostOneCount : Obligations.ReadOfTmrLosesAtMostOneCount := by
  refine ⟨fun s => ⟨?_, by rw [State.count_eq], fun hread => ?_⟩, fun s rest hr hread hn => ⟨?tick, ?edge⟩⟩
  · exact s.count_once_or_lost.imp_right fun ⟨hc, _⟩ => by rw [hc, BitVec.toNat_ofNat]
  · rw [State.count_of_no_read hread, BitVec.toNat_ofNat]
  case tick =>
    intro e hs he h1 h0 htick hno
    have hstep := step_tick hr hs he hno
    rw [htick, if_pos rfl, timerClock_counting (s := s.afterTick e rest) hn h1 h0] at hstep
    obtain ⟨honce, ht, hcycles⟩ := raiseRequests_count_in_window (s := s.afterTick e rest) hread false rfl
    rw [Bool.or_false] at ht
    exact ⟨_, hstep, honce, ht, hcycles⟩
  case edge =>
    intro level hs hlevel hte h1 h0
    have hc : (s.tmrc.ton && (s.tmrc.te == !level)) = true := by simp [hn, hte]
    have hstep := step_intPad hr hs hlevel
    rw [padEdge_counting (s := s.padAt level rest) hc h1 h0] at hstep
    obtain ⟨honce, ht, hcycles⟩ :=
      raiseRequests_count_in_window (s := s.padAt level rest) hread (!level) rfl
    exact ⟨_, hstep, honce, ht, hcycles⟩

/-! ### The requests during halt (R253) -/

/-- A request during halt, whole: the core wakes exactly where a flag rises, after the delay, with one cycle more where that leads to an
interrupt (log 24). -/
theorem raiseRequests_in_halt {s u : State} {rises : Bool} (hh : s.halted = true) (eif tf : Bool)
    (hu : { s with intc := { s.intc with eif := s.intc.eif || eif, tf := s.intc.tf || tf } } = u)
    (hrises : ((eif && !s.intc.eif) || (tf && !s.intc.tf)) = rises) :
    raiseRequests eif tf s = if rises then { u with
      halted := false,
      cycles := s.cycles + 256 + (if u.acceptable .external || u.acceptable .timer then 1 else 0) } else u := by
  rw [raiseRequests_halted hh, ← hu, ← hrises]
  rfl

/-- Settles O57: during halt the edge and the tick request as while running, and a flag that rises wakes. -/
theorem requestWakesOnlyWhenItRises : Obligations.RequestWakesOnlyWhenItRises := by
  intro s rest hr hh ends
  refine ⟨fun level hs hlevel => ?pad, fun hs hno => ?clock⟩
  case pad =>
    intro counts seen
    have hstep := step_intPad hr hs hlevel
    refine ⟨fun h => ?_, fun hc h1 h0 hread => ?_, fun hc hm => ?_⟩
    · rw [padEdge_request (s := s.padAt level rest) h] at hstep
      exact hstep.trans (congrArg _ (raiseRequests_in_halt (by exact hh) _ _ (by simp only [Bool.or_false]; rfl) (Bool.or_false _)))
    · rw [padEdge_counts (s := s.padAt level rest) hc h1 h0 hread] at hstep
      exact hstep.trans (congrArg _ (raiseRequests_in_halt (by exact hh) _ _ rfl rfl))
    · exact hstep.trans (padEdge_unused (s := s.padAt level rest) hc hm)
  case clock =>
    have hstep := step_tick hr hs (.inr rfl) hno
    refine ⟨fun htick hn h1 h0 hread => ?_, fun hidle => ?_, fun htick hn hm => ?_⟩
    · rw [htick, if_pos rfl, timerClock_counts (s := s.afterTick .rcClock rest) hn h1 h0 hread] at hstep
      exact hstep.trans (congrArg _ (raiseRequests_in_halt (by exact hh) _ _ (by simp only [Bool.or_false]; rfl) (Bool.false_or _)))
    · rw [hstep]
      split
      · next htick => exact timerClock_idle (s := s.afterTick .rcClock rest) (hidle.resolve_left (by simp [htick]))
      · rfl
    · rw [hstep, htick]
      exact timerClock_unused (s := s.afterTick .rcClock rest) hn hm

/-! ### Port A (R252) -/

/-- A falling edge on a pin with the wake-up option, bit by bit. -/
theorem falls_iff (old new wake : BitVec 8) :
    old &&& ~~~new &&& wake ≠ 0 ↔ ∃ j < 8, wake.getLsbD j = true ∧ old.getLsbD j = true ∧ new.getLsbD j = false := by
  have hbit {j : Nat} (hj : j < 8) : (old &&& ~~~new &&& wake).getLsbD j = true ↔
      wake.getLsbD j = true ∧ old.getLsbD j = true ∧ new.getLsbD j = false := by
    rw [BitVec.getLsbD_and, BitVec.getLsbD_and, BitVec.getLsbD_not, decide_eq_true hj]
    grind
  constructor
  · intro hne
    by_contra hno
    refine hne (BitVec.eq_of_getLsbD_eq fun j hj => ?_)
    rw [BitVec.ofNat_eq_ofNat, BitVec.getLsbD_zero, Bool.eq_false_iff]
    exact fun h => hno ⟨j, hj, (hbit hj).mp h⟩
  · rintro ⟨j, hj, h⟩ hzero
    have h' := (hbit hj).mpr h
    rw [hzero, BitVec.ofNat_eq_ofNat, BitVec.getLsbD_zero] at h'
    cases h'

/-- The state on which new levels of port A arrive. -/
def State.portAAt (s : State) (drv lvl : BitVec 8) (rest : List Turn) : State :=
  { s with env := rest, pins := { s.pins with drvA := drv, lvlA := lvl } }

/-- New levels on port A during halt: a falling edge on a pin with the wake-up option wakes (R252). -/
theorem step_portA {s : State} {drv lvl : BitVec 8} {rest : List Turn} (hr : s.pins.res = true) (hh : s.halted = true)
    (hs : s.env = .event (.portA drv lvl) :: rest) :
    step s = .next (if s.padA &&& ~~~(s.portAAt drv lvl rest).padA &&& s.cfg.opt.wake ≠ 0 then (s.portAAt drv lvl rest).wake
      else s.portAAt drv lvl rest) := by
  have hpads : portAPads drv lvl (s.setEnv rest) =
      if (s.halted && decide (s.padA &&& ~~~(s.portAAt drv lvl rest).padA &&& s.cfg.opt.wake ≠ 0)) = true
      then (s.portAAt drv lvl rest).wake else s.portAAt drv lvl rest := rfl
  rw [step_event hs, applyEvent, if_pos (by exact hr), hpads, hh]
  simp only [Bool.true_and, decide_eq_true_eq]

/-- Settles O58: the pads that fall and may wake decide. -/
theorem portAFallWakes : Obligations.PortAFallWakes := by
  intro s drv lvl rest hr hh hs seen
  rw [step_portA hr hh hs]
  refine ⟨fun hfall => congrArg _ (if_pos ((falls_iff _ _ _).mpr hfall)), fun hno => congrArg _ (if_neg fun hfall => ?_)⟩
  obtain ⟨j, hj, hwake, hold, hnew⟩ := (falls_iff _ _ _).mp hfall
  rcases hno j hj with h | h | h
  · simp [h] at hwake
  · simp [h] at hold
  · exact absurd hnew (ne_false_of_eq_true h)

end Sys2Proof.Machine
end
